-- ==== Sys2Proof/Word.lean ====
section
/-! DEFINITION. The two widths of the engine: bytes and 16-bit words (00_scope.md R5, R7). -/

namespace Sys2Proof

/-- An 8-bit value: a general register, a memory byte, an instruction-stream byte (R5). -/
abbrev Byte := BitVec 8

/-- A 16-bit value: a pair view, IX, IY, SP, PC, an address, an immediate `nn` (R5).
Addition on it is modulo 65536 (10_state.md R25). -/
abbrev Word := BitVec 16

end Sys2Proof
end

