-- ==== Sys2Proof/Config.lean ====
section
/-! DEFINITION. What is fixed for this engine (00_scope.md R5). The two OPEN parameters of R5,
`INIT_MEM` and `TRACE_ATTACHED`, are arguments of `Sys2Proof.Machine.State.powerOn`, so that every
statement about a launch holds for all of their values. -/

namespace Sys2Proof.Config

/-- The number of byte locations (00_scope.md R5, 20_memory.md R40). -/
def addressCount : Nat := 65536

/-- The longest instruction, in bytes (30_encoding.md R60). -/
def longestInstruction : Nat := 4

/-- What an address that the memory list does not name reads as. DESIGN CHOICE, unsafe (log entry 1):
20_memory.md R55 leaves the launch image open. The choice only fixes how an image is written as a
list: every image of 65536 bytes is the contents of some `Memory`. -/
def unlistedByte : Byte := 0x00#8

end Sys2Proof.Config
end

