-- ==== Sys2Proof/Machine/Bits.lean ====
section
/-! DEFINITION. Bit fields, concatenation and sign extension (00_scope.md R7, R8). -/

namespace Sys2Proof

/-- `v[7:0]` (R7). -/
def lowByte (v : Word) : Byte := v.extractLsb' 0 8

/-- `v[15:8]` (R7). -/
def highByte (v : Word) : Byte := v.extractLsb' 8 8

/-- The concatenation `{h, l}`, "`(high << 8) | low`": `h` in bits 15:8, `l` in bits 7:0 (R7,
10_state.md R13). -/
def word (h l : Byte) : Word := h.setWidth 16 <<< 8 ||| l.setWidth 16

/-- `sext_16(d)`: `d` when `d <= 0x7F`, else `0xFF00 + d` (40_step_dispatch.md R99). -/
def sext16 (d : Byte) : Word :=
  if d.toNat ≤ 0x7F then d.setWidth 16 else 0xFF00#16 + d.setWidth 16

end Sys2Proof
end

