-- ==== Sys2Proof/Syntax.lean ====
section
/-! DEFINITION. The instruction set as syntax: one constructor per row of spec/opcode_table.json
(30_encoding.md R66 to R69, R75), under the mnemonics of R74, and the operand sets (R63, R64). In a constructor's name `at` stands
for the parentheses of a memory operand; the rows of `LD HL,(nn)` and `LD (nn),HL` in table `ed` end
in `_ED`. -/

namespace Sys2Proof

/-- The 8-bit operands `r`, `r'` (30_encoding.md R63). F, I and R are never one. -/
inductive Reg8
  | B | C | D | E | H | L | A
  deriving DecidableEq, Repr

/-- The 16-bit operands `dd` of the loads (30_encoding.md R64). -/
inductive Pair
  | BC | DE | HL | SP
  deriving DecidableEq, Repr

/-- The 16-bit operands `qq` of PUSH and POP (30_encoding.md R64). -/
inductive StackPair
  | BC | DE | HL | AF
  deriving DecidableEq, Repr

/-- The index registers (10_state.md R14). -/
inductive Index
  | IX | IY
  deriving DecidableEq, Repr

/-- The three prefix bytes, which select the tables `dd`, `fd` and `ed` (00_scope.md R5). -/
inductive Prefix
  | DD | FD | ED
  deriving DecidableEq, Repr

/-- The 150 populated slots. `n` is an 8-bit immediate, `nn` a 16-bit immediate or address, `d` the
displacement byte (30_encoding.md R65). -/
inductive Instr
  -- table `main`
  /-- `LD BC,nn`, M3, opcode 0x01 of `main`, R140. -/
  | ld_BC_nn (nn : Word)
  /-- `LD (BC),A`, M1, opcode 0x02 of `main`, R124. -/
  | ld_atBC_A
  /-- `LD B,n`, M2, opcode 0x06 of `main`, R111. -/
  | ld_B_n (n : Byte)
  /-- `LD A,(BC)`, M1, opcode 0x0A of `main`, R121. -/
  | ld_A_atBC
  /-- `LD C,n`, M2, opcode 0x0E of `main`, R111. -/
  | ld_C_n (n : Byte)
  /-- `LD DE,nn`, M3, opcode 0x11 of `main`, R140. -/
  | ld_DE_nn (nn : Word)
  /-- `LD (DE),A`, M1, opcode 0x12 of `main`, R125. -/
  | ld_atDE_A
  /-- `LD D,n`, M2, opcode 0x16 of `main`, R111. -/
  | ld_D_n (n : Byte)
  /-- `LD A,(DE)`, M1, opcode 0x1A of `main`, R122. -/
  | ld_A_atDE
  /-- `LD E,n`, M2, opcode 0x1E of `main`, R111. -/
  | ld_E_n (n : Byte)
  /-- `LD HL,nn`, M3, opcode 0x21 of `main`, R140. -/
  | ld_HL_nn (nn : Word)
  /-- `LD (nn),HL`, M3, opcode 0x22 of `main`, R147. -/
  | ld_atNN_HL (nn : Word)
  /-- `LD H,n`, M2, opcode 0x26 of `main`, R111. -/
  | ld_H_n (n : Byte)
  /-- `LD HL,(nn)`, M3, opcode 0x2A of `main`, R143. -/
  | ld_HL_atNN (nn : Word)
  /-- `LD L,n`, M2, opcode 0x2E of `main`, R111. -/
  | ld_L_n (n : Byte)
  /-- `LD SP,nn`, M3, opcode 0x31 of `main`, R140. -/
  | ld_SP_nn (nn : Word)
  /-- `LD (nn),A`, M3, opcode 0x32 of `main`, R126. -/
  | ld_atNN_A (nn : Word)
  /-- `LD (HL),n`, M2, opcode 0x36 of `main`, R118. -/
  | ld_atHL_n (n : Byte)
  /-- `LD A,(nn)`, M3, opcode 0x3A of `main`, R123. -/
  | ld_A_atNN (nn : Word)
  /-- `LD A,n`, M2, opcode 0x3E of `main`, R111. -/
  | ld_A_n (n : Byte)
  /-- `LD B,B`, M1, opcode 0x40 of `main`, R110. -/
  | ld_B_B
  /-- `LD B,C`, M1, opcode 0x41 of `main`, R110. -/
  | ld_B_C
  /-- `LD B,D`, M1, opcode 0x42 of `main`, R110. -/
  | ld_B_D
  /-- `LD B,E`, M1, opcode 0x43 of `main`, R110. -/
  | ld_B_E
  /-- `LD B,H`, M1, opcode 0x44 of `main`, R110. -/
  | ld_B_H
  /-- `LD B,L`, M1, opcode 0x45 of `main`, R110. -/
  | ld_B_L
  /-- `LD B,(HL)`, M1, opcode 0x46 of `main`, R112. -/
  | ld_B_atHL
  /-- `LD B,A`, M1, opcode 0x47 of `main`, R110. -/
  | ld_B_A
  /-- `LD C,B`, M1, opcode 0x48 of `main`, R110. -/
  | ld_C_B
  /-- `LD C,C`, M1, opcode 0x49 of `main`, R110. -/
  | ld_C_C
  /-- `LD C,D`, M1, opcode 0x4A of `main`, R110. -/
  | ld_C_D
  /-- `LD C,E`, M1, opcode 0x4B of `main`, R110. -/
  | ld_C_E
  /-- `LD C,H`, M1, opcode 0x4C of `main`, R110. -/
  | ld_C_H
  /-- `LD C,L`, M1, opcode 0x4D of `main`, R110. -/
  | ld_C_L
  /-- `LD C,(HL)`, M1, opcode 0x4E of `main`, R112. -/
  | ld_C_atHL
  /-- `LD C,A`, M1, opcode 0x4F of `main`, R110. -/
  | ld_C_A
  /-- `LD D,B`, M1, opcode 0x50 of `main`, R110. -/
  | ld_D_B
  /-- `LD D,C`, M1, opcode 0x51 of `main`, R110. -/
  | ld_D_C
  /-- `LD D,D`, M1, opcode 0x52 of `main`, R110. -/
  | ld_D_D
  /-- `LD D,E`, M1, opcode 0x53 of `main`, R110. -/
  | ld_D_E
  /-- `LD D,H`, M1, opcode 0x54 of `main`, R110. -/
  | ld_D_H
  /-- `LD D,L`, M1, opcode 0x55 of `main`, R110. -/
  | ld_D_L
  /-- `LD D,(HL)`, M1, opcode 0x56 of `main`, R112. -/
  | ld_D_atHL
  /-- `LD D,A`, M1, opcode 0x57 of `main`, R110. -/
  | ld_D_A
  /-- `LD E,B`, M1, opcode 0x58 of `main`, R110. -/
  | ld_E_B
  /-- `LD E,C`, M1, opcode 0x59 of `main`, R110. -/
  | ld_E_C
  /-- `LD E,D`, M1, opcode 0x5A of `main`, R110. -/
  | ld_E_D
  /-- `LD E,E`, M1, opcode 0x5B of `main`, R110. -/
  | ld_E_E
  /-- `LD E,H`, M1, opcode 0x5C of `main`, R110. -/
  | ld_E_H
  /-- `LD E,L`, M1, opcode 0x5D of `main`, R110. -/
  | ld_E_L
  /-- `LD E,(HL)`, M1, opcode 0x5E of `main`, R112. -/
  | ld_E_atHL
  /-- `LD E,A`, M1, opcode 0x5F of `main`, R110. -/
  | ld_E_A
  /-- `LD H,B`, M1, opcode 0x60 of `main`, R110. -/
  | ld_H_B
  /-- `LD H,C`, M1, opcode 0x61 of `main`, R110. -/
  | ld_H_C
  /-- `LD H,D`, M1, opcode 0x62 of `main`, R110. -/
  | ld_H_D
  /-- `LD H,E`, M1, opcode 0x63 of `main`, R110. -/
  | ld_H_E
  /-- `LD H,H`, M1, opcode 0x64 of `main`, R110. -/
  | ld_H_H
  /-- `LD H,L`, M1, opcode 0x65 of `main`, R110. -/
  | ld_H_L
  /-- `LD H,(HL)`, M1, opcode 0x66 of `main`, R112. -/
  | ld_H_atHL
  /-- `LD H,A`, M1, opcode 0x67 of `main`, R110. -/
  | ld_H_A
  /-- `LD L,B`, M1, opcode 0x68 of `main`, R110. -/
  | ld_L_B
  /-- `LD L,C`, M1, opcode 0x69 of `main`, R110. -/
  | ld_L_C
  /-- `LD L,D`, M1, opcode 0x6A of `main`, R110. -/
  | ld_L_D
  /-- `LD L,E`, M1, opcode 0x6B of `main`, R110. -/
  | ld_L_E
  /-- `LD L,H`, M1, opcode 0x6C of `main`, R110. -/
  | ld_L_H
  /-- `LD L,L`, M1, opcode 0x6D of `main`, R110. -/
  | ld_L_L
  /-- `LD L,(HL)`, M1, opcode 0x6E of `main`, R112. -/
  | ld_L_atHL
  /-- `LD L,A`, M1, opcode 0x6F of `main`, R110. -/
  | ld_L_A
  /-- `LD (HL),B`, M1, opcode 0x70 of `main`, R115. -/
  | ld_atHL_B
  /-- `LD (HL),C`, M1, opcode 0x71 of `main`, R115. -/
  | ld_atHL_C
  /-- `LD (HL),D`, M1, opcode 0x72 of `main`, R115. -/
  | ld_atHL_D
  /-- `LD (HL),E`, M1, opcode 0x73 of `main`, R115. -/
  | ld_atHL_E
  /-- `LD (HL),H`, M1, opcode 0x74 of `main`, R115. -/
  | ld_atHL_H
  /-- `LD (HL),L`, M1, opcode 0x75 of `main`, R115. -/
  | ld_atHL_L
  /-- `HALT`, M1, opcode 0x76 of `main`, R180. -/
  | halt
  /-- `LD (HL),A`, M1, opcode 0x77 of `main`, R115. -/
  | ld_atHL_A
  /-- `LD A,B`, M1, opcode 0x78 of `main`, R110. -/
  | ld_A_B
  /-- `LD A,C`, M1, opcode 0x79 of `main`, R110. -/
  | ld_A_C
  /-- `LD A,D`, M1, opcode 0x7A of `main`, R110. -/
  | ld_A_D
  /-- `LD A,E`, M1, opcode 0x7B of `main`, R110. -/
  | ld_A_E
  /-- `LD A,H`, M1, opcode 0x7C of `main`, R110. -/
  | ld_A_H
  /-- `LD A,L`, M1, opcode 0x7D of `main`, R110. -/
  | ld_A_L
  /-- `LD A,(HL)`, M1, opcode 0x7E of `main`, R112. -/
  | ld_A_atHL
  /-- `LD A,A`, M1, opcode 0x7F of `main`, R110. -/
  | ld_A_A
  /-- `POP BC`, M1, opcode 0xC1 of `main`, R175. -/
  | pop_BC
  /-- `PUSH BC`, M1, opcode 0xC5 of `main`, R172. -/
  | push_BC
  /-- `POP DE`, M1, opcode 0xD1 of `main`, R175. -/
  | pop_DE
  /-- `PUSH DE`, M1, opcode 0xD5 of `main`, R172. -/
  | push_DE
  /-- `PREFIX DD`, PFX, opcode 0xDD of `main`, R95. -/
  | prefix_DD
  /-- `POP HL`, M1, opcode 0xE1 of `main`, R175. -/
  | pop_HL
  /-- `PUSH HL`, M1, opcode 0xE5 of `main`, R172. -/
  | push_HL
  /-- `PREFIX ED`, PFX, opcode 0xED of `main`, R97. -/
  | prefix_ED
  /-- `POP AF`, M1, opcode 0xF1 of `main`, R175. -/
  | pop_AF
  /-- `PUSH AF`, M1, opcode 0xF5 of `main`, R172. -/
  | push_AF
  /-- `LD SP,HL`, M1, opcode 0xF9 of `main`, R151. -/
  | ld_SP_HL
  /-- `PREFIX FD`, PFX, opcode 0xFD of `main`, R96. -/
  | prefix_FD
  -- table `dd`
  /-- `LD IX,nn`, P4W, opcode 0x21 of `dd`, R141. -/
  | ld_IX_nn (nn : Word)
  /-- `LD (nn),IX`, P4W, opcode 0x22 of `dd`, R149. -/
  | ld_atNN_IX (nn : Word)
  /-- `LD IX,(nn)`, P4W, opcode 0x2A of `dd`, R145. -/
  | ld_IX_atNN (nn : Word)
  /-- `LD (IX+d),n`, P4N, opcode 0x36 of `dd`, R119. -/
  | ld_atIX_n (d : Byte) (n : Byte)
  /-- `LD B,(IX+d)`, P3, opcode 0x46 of `dd`, R113. -/
  | ld_B_atIX (d : Byte)
  /-- `LD C,(IX+d)`, P3, opcode 0x4E of `dd`, R113. -/
  | ld_C_atIX (d : Byte)
  /-- `LD D,(IX+d)`, P3, opcode 0x56 of `dd`, R113. -/
  | ld_D_atIX (d : Byte)
  /-- `LD E,(IX+d)`, P3, opcode 0x5E of `dd`, R113. -/
  | ld_E_atIX (d : Byte)
  /-- `LD H,(IX+d)`, P3, opcode 0x66 of `dd`, R113. -/
  | ld_H_atIX (d : Byte)
  /-- `LD L,(IX+d)`, P3, opcode 0x6E of `dd`, R113. -/
  | ld_L_atIX (d : Byte)
  /-- `LD (IX+d),B`, P3, opcode 0x70 of `dd`, R116. -/
  | ld_atIX_B (d : Byte)
  /-- `LD (IX+d),C`, P3, opcode 0x71 of `dd`, R116. -/
  | ld_atIX_C (d : Byte)
  /-- `LD (IX+d),D`, P3, opcode 0x72 of `dd`, R116. -/
  | ld_atIX_D (d : Byte)
  /-- `LD (IX+d),E`, P3, opcode 0x73 of `dd`, R116. -/
  | ld_atIX_E (d : Byte)
  /-- `LD (IX+d),H`, P3, opcode 0x74 of `dd`, R116. -/
  | ld_atIX_H (d : Byte)
  /-- `LD (IX+d),L`, P3, opcode 0x75 of `dd`, R116. -/
  | ld_atIX_L (d : Byte)
  /-- `LD (IX+d),A`, P3, opcode 0x77 of `dd`, R116. -/
  | ld_atIX_A (d : Byte)
  /-- `LD A,(IX+d)`, P3, opcode 0x7E of `dd`, R113. -/
  | ld_A_atIX (d : Byte)
  /-- `POP IX`, P2, opcode 0xE1 of `dd`, R176. -/
  | pop_IX
  /-- `PUSH IX`, P2, opcode 0xE5 of `dd`, R173. -/
  | push_IX
  /-- `LD SP,IX`, P2, opcode 0xF9 of `dd`, R152. -/
  | ld_SP_IX
  -- table `fd`
  /-- `LD IY,nn`, P4W, opcode 0x21 of `fd`, R142. -/
  | ld_IY_nn (nn : Word)
  /-- `LD (nn),IY`, P4W, opcode 0x22 of `fd`, R150. -/
  | ld_atNN_IY (nn : Word)
  /-- `LD IY,(nn)`, P4W, opcode 0x2A of `fd`, R146. -/
  | ld_IY_atNN (nn : Word)
  /-- `LD (IY+d),n`, P4N, opcode 0x36 of `fd`, R120. -/
  | ld_atIY_n (d : Byte) (n : Byte)
  /-- `LD B,(IY+d)`, P3, opcode 0x46 of `fd`, R114. -/
  | ld_B_atIY (d : Byte)
  /-- `LD C,(IY+d)`, P3, opcode 0x4E of `fd`, R114. -/
  | ld_C_atIY (d : Byte)
  /-- `LD D,(IY+d)`, P3, opcode 0x56 of `fd`, R114. -/
  | ld_D_atIY (d : Byte)
  /-- `LD E,(IY+d)`, P3, opcode 0x5E of `fd`, R114. -/
  | ld_E_atIY (d : Byte)
  /-- `LD H,(IY+d)`, P3, opcode 0x66 of `fd`, R114. -/
  | ld_H_atIY (d : Byte)
  /-- `LD L,(IY+d)`, P3, opcode 0x6E of `fd`, R114. -/
  | ld_L_atIY (d : Byte)
  /-- `LD (IY+d),B`, P3, opcode 0x70 of `fd`, R117. -/
  | ld_atIY_B (d : Byte)
  /-- `LD (IY+d),C`, P3, opcode 0x71 of `fd`, R117. -/
  | ld_atIY_C (d : Byte)
  /-- `LD (IY+d),D`, P3, opcode 0x72 of `fd`, R117. -/
  | ld_atIY_D (d : Byte)
  /-- `LD (IY+d),E`, P3, opcode 0x73 of `fd`, R117. -/
  | ld_atIY_E (d : Byte)
  /-- `LD (IY+d),H`, P3, opcode 0x74 of `fd`, R117. -/
  | ld_atIY_H (d : Byte)
  /-- `LD (IY+d),L`, P3, opcode 0x75 of `fd`, R117. -/
  | ld_atIY_L (d : Byte)
  /-- `LD (IY+d),A`, P3, opcode 0x77 of `fd`, R117. -/
  | ld_atIY_A (d : Byte)
  /-- `LD A,(IY+d)`, P3, opcode 0x7E of `fd`, R114. -/
  | ld_A_atIY (d : Byte)
  /-- `POP IY`, P2, opcode 0xE1 of `fd`, R177. -/
  | pop_IY
  /-- `PUSH IY`, P2, opcode 0xE5 of `fd`, R174. -/
  | push_IY
  /-- `LD SP,IY`, P2, opcode 0xF9 of `fd`, R153. -/
  | ld_SP_IY
  -- table `ed`
  /-- `LD (nn),BC`, P4W, opcode 0x43 of `ed`, R148. -/
  | ld_atNN_BC (nn : Word)
  /-- `LD I,A`, P2, opcode 0x47 of `ed`, R129. -/
  | ld_I_A
  /-- `LD BC,(nn)`, P4W, opcode 0x4B of `ed`, R144. -/
  | ld_BC_atNN (nn : Word)
  /-- `LD R,A`, P2, opcode 0x4F of `ed`, R130. -/
  | ld_R_A
  /-- `LD (nn),DE`, P4W, opcode 0x53 of `ed`, R148. -/
  | ld_atNN_DE (nn : Word)
  /-- `LD A,I`, P2, opcode 0x57 of `ed`, R127. -/
  | ld_A_I
  /-- `LD DE,(nn)`, P4W, opcode 0x5B of `ed`, R144. -/
  | ld_DE_atNN (nn : Word)
  /-- `LD A,R`, P2, opcode 0x5F of `ed`, R128. -/
  | ld_A_R
  /-- `LD (nn),HL`, P4W, opcode 0x63 of `ed`, R148. -/
  | ld_atNN_HL_ED (nn : Word)
  /-- `LD HL,(nn)`, P4W, opcode 0x6B of `ed`, R144. -/
  | ld_HL_atNN_ED (nn : Word)
  /-- `LD (nn),SP`, P4W, opcode 0x73 of `ed`, R148. -/
  | ld_atNN_SP (nn : Word)
  /-- `LD SP,(nn)`, P4W, opcode 0x7B of `ed`, R144. -/
  | ld_SP_atNN (nn : Word)
  deriving DecidableEq, Repr

/-- The slot of `main` that a prefix byte selects, as an instruction of the opcode table. -/
def Prefix.instr : Prefix → Instr
  | .DD => .prefix_DD
  | .FD => .prefix_FD
  | .ED => .prefix_ED

end Sys2Proof
end

