-- ==== Sys2Proof/WellFormed.lean ====
section
/-! DEFINITION. Which terms of `Instr` are whole instructions. Every operand of every constructor is legal
at every value of its type (10_state.md R13, 20_memory.md R40, 30_encoding.md R65), so the only check is
that the term is not a prefix slot. -/

namespace Sys2Proof

/-- "A `PFX` row is not an instruction on its own: a step never ends after a prefix byte"
(30_encoding.md R75): the 147 instruction slots are well-formed, the 3 prefix slots are not. -/
def Instr.wellFormed : Instr → Bool
  | .prefix_DD => false
  | .prefix_FD => false
  | .prefix_ED => false
  | _ => true

end Sys2Proof
end

