-- ==== Sys2Proof/Decode.lean ====
section
/-! DEFINITION. The four opcode tables, the decoder, and the encoder (30_encoding.md). The opcode
numbers are those of R66 to R69 and spec/opcode_table.json (the Zilog assignment the spec adopts under
92_eei_decisions.md D1; log entry 5). -/

namespace Sys2Proof

/-- What a table slot holds (30_encoding.md R61, R70): an instruction with the operand bytes it still
fetches, the prefix handler, or the fault handler. -/
inductive Slot where
  | plain (i : Instr)
  | withN (k : Byte → Instr)
  | withD (k : Byte → Instr)
  | withDN (k : Byte → Byte → Instr)
  | withNN (k : Word → Instr)
  | prefixed (p : Prefix)
  | unpopulated

/-- Table `main`: 96 populated slots (30_encoding.md R66). -/
def mainSlot (op : Byte) : Slot :=
  match op.toNat with
  | 0x01 => .withNN .ld_BC_nn
  | 0x02 => .plain .ld_atBC_A
  | 0x06 => .withN .ld_B_n
  | 0x0A => .plain .ld_A_atBC
  | 0x0E => .withN .ld_C_n
  | 0x11 => .withNN .ld_DE_nn
  | 0x12 => .plain .ld_atDE_A
  | 0x16 => .withN .ld_D_n
  | 0x1A => .plain .ld_A_atDE
  | 0x1E => .withN .ld_E_n
  | 0x21 => .withNN .ld_HL_nn
  | 0x22 => .withNN .ld_atNN_HL
  | 0x26 => .withN .ld_H_n
  | 0x2A => .withNN .ld_HL_atNN
  | 0x2E => .withN .ld_L_n
  | 0x31 => .withNN .ld_SP_nn
  | 0x32 => .withNN .ld_atNN_A
  | 0x36 => .withN .ld_atHL_n
  | 0x3A => .withNN .ld_A_atNN
  | 0x3E => .withN .ld_A_n
  | 0x40 => .plain .ld_B_B
  | 0x41 => .plain .ld_B_C
  | 0x42 => .plain .ld_B_D
  | 0x43 => .plain .ld_B_E
  | 0x44 => .plain .ld_B_H
  | 0x45 => .plain .ld_B_L
  | 0x46 => .plain .ld_B_atHL
  | 0x47 => .plain .ld_B_A
  | 0x48 => .plain .ld_C_B
  | 0x49 => .plain .ld_C_C
  | 0x4A => .plain .ld_C_D
  | 0x4B => .plain .ld_C_E
  | 0x4C => .plain .ld_C_H
  | 0x4D => .plain .ld_C_L
  | 0x4E => .plain .ld_C_atHL
  | 0x4F => .plain .ld_C_A
  | 0x50 => .plain .ld_D_B
  | 0x51 => .plain .ld_D_C
  | 0x52 => .plain .ld_D_D
  | 0x53 => .plain .ld_D_E
  | 0x54 => .plain .ld_D_H
  | 0x55 => .plain .ld_D_L
  | 0x56 => .plain .ld_D_atHL
  | 0x57 => .plain .ld_D_A
  | 0x58 => .plain .ld_E_B
  | 0x59 => .plain .ld_E_C
  | 0x5A => .plain .ld_E_D
  | 0x5B => .plain .ld_E_E
  | 0x5C => .plain .ld_E_H
  | 0x5D => .plain .ld_E_L
  | 0x5E => .plain .ld_E_atHL
  | 0x5F => .plain .ld_E_A
  | 0x60 => .plain .ld_H_B
  | 0x61 => .plain .ld_H_C
  | 0x62 => .plain .ld_H_D
  | 0x63 => .plain .ld_H_E
  | 0x64 => .plain .ld_H_H
  | 0x65 => .plain .ld_H_L
  | 0x66 => .plain .ld_H_atHL
  | 0x67 => .plain .ld_H_A
  | 0x68 => .plain .ld_L_B
  | 0x69 => .plain .ld_L_C
  | 0x6A => .plain .ld_L_D
  | 0x6B => .plain .ld_L_E
  | 0x6C => .plain .ld_L_H
  | 0x6D => .plain .ld_L_L
  | 0x6E => .plain .ld_L_atHL
  | 0x6F => .plain .ld_L_A
  | 0x70 => .plain .ld_atHL_B
  | 0x71 => .plain .ld_atHL_C
  | 0x72 => .plain .ld_atHL_D
  | 0x73 => .plain .ld_atHL_E
  | 0x74 => .plain .ld_atHL_H
  | 0x75 => .plain .ld_atHL_L
  | 0x76 => .plain .halt
  | 0x77 => .plain .ld_atHL_A
  | 0x78 => .plain .ld_A_B
  | 0x79 => .plain .ld_A_C
  | 0x7A => .plain .ld_A_D
  | 0x7B => .plain .ld_A_E
  | 0x7C => .plain .ld_A_H
  | 0x7D => .plain .ld_A_L
  | 0x7E => .plain .ld_A_atHL
  | 0x7F => .plain .ld_A_A
  | 0xC1 => .plain .pop_BC
  | 0xC5 => .plain .push_BC
  | 0xD1 => .plain .pop_DE
  | 0xD5 => .plain .push_DE
  | 0xDD => .prefixed .DD
  | 0xE1 => .plain .pop_HL
  | 0xE5 => .plain .push_HL
  | 0xED => .prefixed .ED
  | 0xF1 => .plain .pop_AF
  | 0xF5 => .plain .push_AF
  | 0xF9 => .plain .ld_SP_HL
  | 0xFD => .prefixed .FD
  | _ => .unpopulated

/-- Table `dd`: 21 populated slots (30_encoding.md R67). -/
def ddSlot (op : Byte) : Slot :=
  match op.toNat with
  | 0x21 => .withNN .ld_IX_nn
  | 0x22 => .withNN .ld_atNN_IX
  | 0x2A => .withNN .ld_IX_atNN
  | 0x36 => .withDN .ld_atIX_n
  | 0x46 => .withD .ld_B_atIX
  | 0x4E => .withD .ld_C_atIX
  | 0x56 => .withD .ld_D_atIX
  | 0x5E => .withD .ld_E_atIX
  | 0x66 => .withD .ld_H_atIX
  | 0x6E => .withD .ld_L_atIX
  | 0x70 => .withD .ld_atIX_B
  | 0x71 => .withD .ld_atIX_C
  | 0x72 => .withD .ld_atIX_D
  | 0x73 => .withD .ld_atIX_E
  | 0x74 => .withD .ld_atIX_H
  | 0x75 => .withD .ld_atIX_L
  | 0x77 => .withD .ld_atIX_A
  | 0x7E => .withD .ld_A_atIX
  | 0xE1 => .plain .pop_IX
  | 0xE5 => .plain .push_IX
  | 0xF9 => .plain .ld_SP_IX
  | _ => .unpopulated

/-- Table `fd`: 21 populated slots (30_encoding.md R68). -/
def fdSlot (op : Byte) : Slot :=
  match op.toNat with
  | 0x21 => .withNN .ld_IY_nn
  | 0x22 => .withNN .ld_atNN_IY
  | 0x2A => .withNN .ld_IY_atNN
  | 0x36 => .withDN .ld_atIY_n
  | 0x46 => .withD .ld_B_atIY
  | 0x4E => .withD .ld_C_atIY
  | 0x56 => .withD .ld_D_atIY
  | 0x5E => .withD .ld_E_atIY
  | 0x66 => .withD .ld_H_atIY
  | 0x6E => .withD .ld_L_atIY
  | 0x70 => .withD .ld_atIY_B
  | 0x71 => .withD .ld_atIY_C
  | 0x72 => .withD .ld_atIY_D
  | 0x73 => .withD .ld_atIY_E
  | 0x74 => .withD .ld_atIY_H
  | 0x75 => .withD .ld_atIY_L
  | 0x77 => .withD .ld_atIY_A
  | 0x7E => .withD .ld_A_atIY
  | 0xE1 => .plain .pop_IY
  | 0xE5 => .plain .push_IY
  | 0xF9 => .plain .ld_SP_IY
  | _ => .unpopulated

/-- Table `ed`: 12 populated slots (30_encoding.md R69). -/
def edSlot (op : Byte) : Slot :=
  match op.toNat with
  | 0x43 => .withNN .ld_atNN_BC
  | 0x47 => .plain .ld_I_A
  | 0x4B => .withNN .ld_BC_atNN
  | 0x4F => .plain .ld_R_A
  | 0x53 => .withNN .ld_atNN_DE
  | 0x57 => .plain .ld_A_I
  | 0x5B => .withNN .ld_DE_atNN
  | 0x5F => .plain .ld_A_R
  | 0x63 => .withNN .ld_atNN_HL_ED
  | 0x6B => .withNN .ld_HL_atNN_ED
  | 0x73 => .withNN .ld_atNN_SP
  | 0x7B => .withNN .ld_SP_atNN
  | _ => .unpopulated

/-- The prefix byte itself (00_scope.md R5). -/
def Prefix.byte : Prefix → Byte
  | .DD => 0xDD#8
  | .FD => 0xFD#8
  | .ED => 0xED#8

/-- The table a prefix byte selects (00_scope.md R5). -/
def Prefix.slot : Prefix → Byte → Slot
  | .DD => ddSlot
  | .FD => fdSlot
  | .ED => edSlot

/-- The instruction a slot gives with the next two instruction-stream bytes, of which it uses as many
as its format has operand bytes, low byte first (30_encoding.md R61, R65). -/
def Slot.fill : Slot → Byte → Byte → Option Instr
  | .plain i, _, _ => some i
  | .withN k, x, _ => some (k x)
  | .withD k, x, _ => some (k x)
  | .withDN k, x, y => some (k x y)
  | .withNN k, x, y => some (k (word y x))
  | .prefixed _, _, _ => none
  | .unpopulated, _, _ => none

/-- What the decoder answers: an instruction, or the name of the rejection with the opcode byte of
`main` that no slot holds (30_encoding.md R70). -/
inductive Decoded where
  | ok (i : Instr)
  | unknownOpcode (opcode : Byte)
  deriving DecidableEq, Repr

/-- Decoding of the four instruction-stream bytes at PC, total (40_step_dispatch.md R94, 30_encoding.md
R71); the bytes after the instruction's own are not looked at. A prefix byte before a populated slot of
its table gives that slot's instruction; before any other byte what stands there is the prefix slot of
`main` alone, whose handler raises the fault (R95 to R97; log entry 4). -/
def decode (b0 b1 b2 b3 : Byte) : Decoded :=
  match mainSlot b0 with
  | .prefixed p => .ok (((p.slot b1).fill b2 b3).getD p.instr)
  | slot =>
    match slot.fill b1 b2 with
    | some i => .ok i
    | none => .unknownOpcode b0

/-- Decoding of a list of bytes; a byte the list does not have is taken as 0. -/
def decodeBytes (bs : List Byte) : Decoded :=
  decode (bs.getD 0 0) (bs.getD 1 0) (bs.getD 2 0) (bs.getD 3 0)

/-- Byte `k` of a number, bit 0 in byte 0. -/
def numberByte (v k : Nat) : Byte := BitVec.ofNat 8 (v / 2 ^ (8 * k))

/-- Whether a byte is one of the three prefix bytes (30_encoding.md R60). -/
def isPrefixByte (b : Byte) : Bool := b == 0xDD#8 || b == 0xFD#8 || b == 0xED#8

/-- Byte `k`, lowest address first, of an instruction given as an opcode-table word; every bit from `nbits`
up is 0. Byte 0 stands in bits 7..0 and byte 1 in bits 15..8. But R75 writes the rows of two identifying
bytes "as one big-endian hex number in fetch order", and the table's `fixed` field keeps that order, so
that the prefix stands in bits 15..8. Every such row starts with a prefix byte, so a word with a prefix byte
in bits 15..8 and none in bits 7..0 is read in that order (log entry 14). -/
def tableByte (nbits w k : Nat) : Byte :=
  let v := w % 2 ^ nbits
  if isPrefixByte (numberByte v 1) && !isPrefixByte (numberByte v 0) then
    match k with
    | 0 => numberByte v 1
    | 1 => numberByte v 0
    | _ => numberByte v k
  else numberByte v k

/-- The instruction the decoder reads from an opcode-table word. -/
def decodeTableWord (nbits w : Nat) : Option Instr :=
  match decode (tableByte nbits w 0) (tableByte nbits w 1) (tableByte nbits w 2) (tableByte nbits w 3) with
  | .ok i => some i
  | .unknownOpcode _ => none

/-- The bytes of an instruction, lowest address first (30_encoding.md R61). -/
def encode : Instr → List Byte
  | .ld_BC_nn nn => [0x01, lowByte nn, highByte nn]
  | .ld_atBC_A => [0x02]
  | .ld_B_n n => [0x06, n]
  | .ld_A_atBC => [0x0A]
  | .ld_C_n n => [0x0E, n]
  | .ld_DE_nn nn => [0x11, lowByte nn, highByte nn]
  | .ld_atDE_A => [0x12]
  | .ld_D_n n => [0x16, n]
  | .ld_A_atDE => [0x1A]
  | .ld_E_n n => [0x1E, n]
  | .ld_HL_nn nn => [0x21, lowByte nn, highByte nn]
  | .ld_atNN_HL nn => [0x22, lowByte nn, highByte nn]
  | .ld_H_n n => [0x26, n]
  | .ld_HL_atNN nn => [0x2A, lowByte nn, highByte nn]
  | .ld_L_n n => [0x2E, n]
  | .ld_SP_nn nn => [0x31, lowByte nn, highByte nn]
  | .ld_atNN_A nn => [0x32, lowByte nn, highByte nn]
  | .ld_atHL_n n => [0x36, n]
  | .ld_A_atNN nn => [0x3A, lowByte nn, highByte nn]
  | .ld_A_n n => [0x3E, n]
  | .ld_B_B => [0x40]
  | .ld_B_C => [0x41]
  | .ld_B_D => [0x42]
  | .ld_B_E => [0x43]
  | .ld_B_H => [0x44]
  | .ld_B_L => [0x45]
  | .ld_B_atHL => [0x46]
  | .ld_B_A => [0x47]
  | .ld_C_B => [0x48]
  | .ld_C_C => [0x49]
  | .ld_C_D => [0x4A]
  | .ld_C_E => [0x4B]
  | .ld_C_H => [0x4C]
  | .ld_C_L => [0x4D]
  | .ld_C_atHL => [0x4E]
  | .ld_C_A => [0x4F]
  | .ld_D_B => [0x50]
  | .ld_D_C => [0x51]
  | .ld_D_D => [0x52]
  | .ld_D_E => [0x53]
  | .ld_D_H => [0x54]
  | .ld_D_L => [0x55]
  | .ld_D_atHL => [0x56]
  | .ld_D_A => [0x57]
  | .ld_E_B => [0x58]
  | .ld_E_C => [0x59]
  | .ld_E_D => [0x5A]
  | .ld_E_E => [0x5B]
  | .ld_E_H => [0x5C]
  | .ld_E_L => [0x5D]
  | .ld_E_atHL => [0x5E]
  | .ld_E_A => [0x5F]
  | .ld_H_B => [0x60]
  | .ld_H_C => [0x61]
  | .ld_H_D => [0x62]
  | .ld_H_E => [0x63]
  | .ld_H_H => [0x64]
  | .ld_H_L => [0x65]
  | .ld_H_atHL => [0x66]
  | .ld_H_A => [0x67]
  | .ld_L_B => [0x68]
  | .ld_L_C => [0x69]
  | .ld_L_D => [0x6A]
  | .ld_L_E => [0x6B]
  | .ld_L_H => [0x6C]
  | .ld_L_L => [0x6D]
  | .ld_L_atHL => [0x6E]
  | .ld_L_A => [0x6F]
  | .ld_atHL_B => [0x70]
  | .ld_atHL_C => [0x71]
  | .ld_atHL_D => [0x72]
  | .ld_atHL_E => [0x73]
  | .ld_atHL_H => [0x74]
  | .ld_atHL_L => [0x75]
  | .halt => [0x76]
  | .ld_atHL_A => [0x77]
  | .ld_A_B => [0x78]
  | .ld_A_C => [0x79]
  | .ld_A_D => [0x7A]
  | .ld_A_E => [0x7B]
  | .ld_A_H => [0x7C]
  | .ld_A_L => [0x7D]
  | .ld_A_atHL => [0x7E]
  | .ld_A_A => [0x7F]
  | .pop_BC => [0xC1]
  | .push_BC => [0xC5]
  | .pop_DE => [0xD1]
  | .push_DE => [0xD5]
  | .prefix_DD => [0xDD]
  | .pop_HL => [0xE1]
  | .push_HL => [0xE5]
  | .prefix_ED => [0xED]
  | .pop_AF => [0xF1]
  | .push_AF => [0xF5]
  | .ld_SP_HL => [0xF9]
  | .prefix_FD => [0xFD]
  | .ld_IX_nn nn => [0xDD, 0x21, lowByte nn, highByte nn]
  | .ld_atNN_IX nn => [0xDD, 0x22, lowByte nn, highByte nn]
  | .ld_IX_atNN nn => [0xDD, 0x2A, lowByte nn, highByte nn]
  | .ld_atIX_n d n => [0xDD, 0x36, d, n]
  | .ld_B_atIX d => [0xDD, 0x46, d]
  | .ld_C_atIX d => [0xDD, 0x4E, d]
  | .ld_D_atIX d => [0xDD, 0x56, d]
  | .ld_E_atIX d => [0xDD, 0x5E, d]
  | .ld_H_atIX d => [0xDD, 0x66, d]
  | .ld_L_atIX d => [0xDD, 0x6E, d]
  | .ld_atIX_B d => [0xDD, 0x70, d]
  | .ld_atIX_C d => [0xDD, 0x71, d]
  | .ld_atIX_D d => [0xDD, 0x72, d]
  | .ld_atIX_E d => [0xDD, 0x73, d]
  | .ld_atIX_H d => [0xDD, 0x74, d]
  | .ld_atIX_L d => [0xDD, 0x75, d]
  | .ld_atIX_A d => [0xDD, 0x77, d]
  | .ld_A_atIX d => [0xDD, 0x7E, d]
  | .pop_IX => [0xDD, 0xE1]
  | .push_IX => [0xDD, 0xE5]
  | .ld_SP_IX => [0xDD, 0xF9]
  | .ld_IY_nn nn => [0xFD, 0x21, lowByte nn, highByte nn]
  | .ld_atNN_IY nn => [0xFD, 0x22, lowByte nn, highByte nn]
  | .ld_IY_atNN nn => [0xFD, 0x2A, lowByte nn, highByte nn]
  | .ld_atIY_n d n => [0xFD, 0x36, d, n]
  | .ld_B_atIY d => [0xFD, 0x46, d]
  | .ld_C_atIY d => [0xFD, 0x4E, d]
  | .ld_D_atIY d => [0xFD, 0x56, d]
  | .ld_E_atIY d => [0xFD, 0x5E, d]
  | .ld_H_atIY d => [0xFD, 0x66, d]
  | .ld_L_atIY d => [0xFD, 0x6E, d]
  | .ld_atIY_B d => [0xFD, 0x70, d]
  | .ld_atIY_C d => [0xFD, 0x71, d]
  | .ld_atIY_D d => [0xFD, 0x72, d]
  | .ld_atIY_E d => [0xFD, 0x73, d]
  | .ld_atIY_H d => [0xFD, 0x74, d]
  | .ld_atIY_L d => [0xFD, 0x75, d]
  | .ld_atIY_A d => [0xFD, 0x77, d]
  | .ld_A_atIY d => [0xFD, 0x7E, d]
  | .pop_IY => [0xFD, 0xE1]
  | .push_IY => [0xFD, 0xE5]
  | .ld_SP_IY => [0xFD, 0xF9]
  | .ld_atNN_BC nn => [0xED, 0x43, lowByte nn, highByte nn]
  | .ld_I_A => [0xED, 0x47]
  | .ld_BC_atNN nn => [0xED, 0x4B, lowByte nn, highByte nn]
  | .ld_R_A => [0xED, 0x4F]
  | .ld_atNN_DE nn => [0xED, 0x53, lowByte nn, highByte nn]
  | .ld_A_I => [0xED, 0x57]
  | .ld_DE_atNN nn => [0xED, 0x5B, lowByte nn, highByte nn]
  | .ld_A_R => [0xED, 0x5F]
  | .ld_atNN_HL_ED nn => [0xED, 0x63, lowByte nn, highByte nn]
  | .ld_HL_atNN_ED nn => [0xED, 0x6B, lowByte nn, highByte nn]
  | .ld_atNN_SP nn => [0xED, 0x73, lowByte nn, highByte nn]
  | .ld_SP_atNN nn => [0xED, 0x7B, lowByte nn, highByte nn]

/-- The length of an instruction in bytes (30_encoding.md R60). -/
def Instr.length (i : Instr) : Nat := (encode i).length

/-- The 3-bit code of an 8-bit operand (30_encoding.md R63). -/
def Reg8.code : Reg8 → Byte
  | .B => 0 | .C => 1 | .D => 2 | .E => 3 | .H => 4 | .L => 5 | .A => 7

/-- The 2-bit `dd` code (30_encoding.md R64). -/
def Pair.code : Pair → Byte
  | .BC => 0 | .DE => 1 | .HL => 2 | .SP => 3

/-- The 2-bit `qq` code (30_encoding.md R64). -/
def StackPair.code : StackPair → Byte
  | .BC => 0 | .DE => 1 | .HL => 2 | .AF => 3

/-- The prefix byte of the instructions on an index register (30_encoding.md R67, R68). -/
def Index.prefixByte : Index → Byte
  | .IX => 0xDD#8
  | .IY => 0xFD#8

/-- `LD r,r'` by its operands (41_ld8.md R110). -/
def Instr.ldRegReg : Reg8 → Reg8 → Instr
  | .B, .B => .ld_B_B
  | .B, .C => .ld_B_C
  | .B, .D => .ld_B_D
  | .B, .E => .ld_B_E
  | .B, .H => .ld_B_H
  | .B, .L => .ld_B_L
  | .B, .A => .ld_B_A
  | .C, .B => .ld_C_B
  | .C, .C => .ld_C_C
  | .C, .D => .ld_C_D
  | .C, .E => .ld_C_E
  | .C, .H => .ld_C_H
  | .C, .L => .ld_C_L
  | .C, .A => .ld_C_A
  | .D, .B => .ld_D_B
  | .D, .C => .ld_D_C
  | .D, .D => .ld_D_D
  | .D, .E => .ld_D_E
  | .D, .H => .ld_D_H
  | .D, .L => .ld_D_L
  | .D, .A => .ld_D_A
  | .E, .B => .ld_E_B
  | .E, .C => .ld_E_C
  | .E, .D => .ld_E_D
  | .E, .E => .ld_E_E
  | .E, .H => .ld_E_H
  | .E, .L => .ld_E_L
  | .E, .A => .ld_E_A
  | .H, .B => .ld_H_B
  | .H, .C => .ld_H_C
  | .H, .D => .ld_H_D
  | .H, .E => .ld_H_E
  | .H, .H => .ld_H_H
  | .H, .L => .ld_H_L
  | .H, .A => .ld_H_A
  | .L, .B => .ld_L_B
  | .L, .C => .ld_L_C
  | .L, .D => .ld_L_D
  | .L, .E => .ld_L_E
  | .L, .H => .ld_L_H
  | .L, .L => .ld_L_L
  | .L, .A => .ld_L_A
  | .A, .B => .ld_A_B
  | .A, .C => .ld_A_C
  | .A, .D => .ld_A_D
  | .A, .E => .ld_A_E
  | .A, .H => .ld_A_H
  | .A, .L => .ld_A_L
  | .A, .A => .ld_A_A

/-- `LD r,n` (R111). -/
def Instr.ldRegImm : Reg8 → Byte → Instr
  | .B, n => .ld_B_n n
  | .C, n => .ld_C_n n
  | .D, n => .ld_D_n n
  | .E, n => .ld_E_n n
  | .H, n => .ld_H_n n
  | .L, n => .ld_L_n n
  | .A, n => .ld_A_n n

/-- `LD r,(HL)` (R112). -/
def Instr.ldRegAtHL : Reg8 → Instr
  | .B => .ld_B_atHL
  | .C => .ld_C_atHL
  | .D => .ld_D_atHL
  | .E => .ld_E_atHL
  | .H => .ld_H_atHL
  | .L => .ld_L_atHL
  | .A => .ld_A_atHL

/-- `LD r,(IX+d)`, `LD r,(IY+d)` (R113, R114). -/
def Instr.ldRegAtIndex : Index → Reg8 → Byte → Instr
  | .IX, .B, disp => .ld_B_atIX disp
  | .IX, .C, disp => .ld_C_atIX disp
  | .IX, .D, disp => .ld_D_atIX disp
  | .IX, .E, disp => .ld_E_atIX disp
  | .IX, .H, disp => .ld_H_atIX disp
  | .IX, .L, disp => .ld_L_atIX disp
  | .IX, .A, disp => .ld_A_atIX disp
  | .IY, .B, disp => .ld_B_atIY disp
  | .IY, .C, disp => .ld_C_atIY disp
  | .IY, .D, disp => .ld_D_atIY disp
  | .IY, .E, disp => .ld_E_atIY disp
  | .IY, .H, disp => .ld_H_atIY disp
  | .IY, .L, disp => .ld_L_atIY disp
  | .IY, .A, disp => .ld_A_atIY disp

/-- `LD (HL),r` (R115). -/
def Instr.ldAtHLReg : Reg8 → Instr
  | .B => .ld_atHL_B
  | .C => .ld_atHL_C
  | .D => .ld_atHL_D
  | .E => .ld_atHL_E
  | .H => .ld_atHL_H
  | .L => .ld_atHL_L
  | .A => .ld_atHL_A

/-- `LD (IX+d),r`, `LD (IY+d),r` (R116, R117). -/
def Instr.ldAtIndexReg : Index → Reg8 → Byte → Instr
  | .IX, .B, disp => .ld_atIX_B disp
  | .IX, .C, disp => .ld_atIX_C disp
  | .IX, .D, disp => .ld_atIX_D disp
  | .IX, .E, disp => .ld_atIX_E disp
  | .IX, .H, disp => .ld_atIX_H disp
  | .IX, .L, disp => .ld_atIX_L disp
  | .IX, .A, disp => .ld_atIX_A disp
  | .IY, .B, disp => .ld_atIY_B disp
  | .IY, .C, disp => .ld_atIY_C disp
  | .IY, .D, disp => .ld_atIY_D disp
  | .IY, .E, disp => .ld_atIY_E disp
  | .IY, .H, disp => .ld_atIY_H disp
  | .IY, .L, disp => .ld_atIY_L disp
  | .IY, .A, disp => .ld_atIY_A disp

/-- `LD (IX+d),n`, `LD (IY+d),n` (R119, R120). -/
def Instr.ldAtIndexImm : Index → Byte → Byte → Instr
  | .IX, disp, n => .ld_atIX_n disp n
  | .IY, disp, n => .ld_atIY_n disp n

/-- `LD dd,nn` (42_ld16.md R140). -/
def Instr.ldPairImm : Pair → Word → Instr
  | .BC, nn => .ld_BC_nn nn
  | .DE, nn => .ld_DE_nn nn
  | .HL, nn => .ld_HL_nn nn
  | .SP, nn => .ld_SP_nn nn

/-- `LD IX,nn`, `LD IY,nn` (R141, R142). -/
def Instr.ldIndexImm : Index → Word → Instr
  | .IX, nn => .ld_IX_nn nn
  | .IY, nn => .ld_IY_nn nn

/-- `LD dd,(nn)` of table `ed` (R144). -/
def Instr.ldPairAtNN : Pair → Word → Instr
  | .BC, nn => .ld_BC_atNN nn
  | .DE, nn => .ld_DE_atNN nn
  | .HL, nn => .ld_HL_atNN_ED nn
  | .SP, nn => .ld_SP_atNN nn

/-- `LD IX,(nn)`, `LD IY,(nn)` (R145, R146). -/
def Instr.ldIndexAtNN : Index → Word → Instr
  | .IX, nn => .ld_IX_atNN nn
  | .IY, nn => .ld_IY_atNN nn

/-- `LD (nn),dd` of table `ed` (R148). -/
def Instr.ldAtNNPair : Pair → Word → Instr
  | .BC, nn => .ld_atNN_BC nn
  | .DE, nn => .ld_atNN_DE nn
  | .HL, nn => .ld_atNN_HL_ED nn
  | .SP, nn => .ld_atNN_SP nn

/-- `LD (nn),IX`, `LD (nn),IY` (R149, R150). -/
def Instr.ldAtNNIndex : Index → Word → Instr
  | .IX, nn => .ld_atNN_IX nn
  | .IY, nn => .ld_atNN_IY nn

/-- `LD SP,IX`, `LD SP,IY` (R152, R153). -/
def Instr.ldSPIndex : Index → Instr
  | .IX => .ld_SP_IX
  | .IY => .ld_SP_IY

/-- `PUSH qq` (43_stack.md R172). -/
def Instr.push : StackPair → Instr
  | .BC => .push_BC
  | .DE => .push_DE
  | .HL => .push_HL
  | .AF => .push_AF

/-- `PUSH IX`, `PUSH IY` (R173, R174). -/
def Instr.pushIndex : Index → Instr
  | .IX => .push_IX
  | .IY => .push_IY

/-- `POP qq` (R175). -/
def Instr.pop : StackPair → Instr
  | .BC => .pop_BC
  | .DE => .pop_DE
  | .HL => .pop_HL
  | .AF => .pop_AF

/-- `POP IX`, `POP IY` (R176, R177). -/
def Instr.popIndex : Index → Instr
  | .IX => .pop_IX
  | .IY => .pop_IY

end Sys2Proof
end

