-- ==== Sys2Proof/Machine/State.lean ====
section
/-! DEFINITION. The state of the engine and its memory (10_state.md R10, 20_memory.md R40), the one fault
(60_exceptions.md R190), and the state after reset (10_state.md R28). -/

namespace Sys2Proof.Machine

/-- The shadow bank A', F', B', C', D', E', H', L', inert (10_state.md R24). -/
structure ShadowBank where
  a : Byte
  f : Byte
  b : Byte
  c : Byte
  d : Byte
  e : Byte
  h : Byte
  l : Byte
  deriving DecidableEq, Repr

/-- The shadow bank after reset: 0x00 each (10_state.md R28). -/
def ShadowBank.zero : ShadowBank := ⟨0, 0, 0, 0, 0, 0, 0, 0⟩

/-- The trace output (40_step_dispatch.md R93; log entry 2): every byte emitted so far, oldest first;
`TRACE_ATTACHED`, whether an observer listens; the bytes the observer has received. Read by no
instruction (10_state.md R22). -/
structure TracePort where
  emitted : List Byte
  attached : Bool
  delivered : List Byte
  deriving DecidableEq, Repr

/-- The memory as (address, byte) pairs, addresses strictly rising, no byte equal to
`Config.unlistedByte`, which is what an address without a pair reads as (log entry 1). -/
abbrev Memory := List Host.Cell

/-- The complete state (10_state.md R10), with the memory and the trace output beside it. The pairs AF,
BC, DE, HL are views (R12) and have no field. -/
structure State where
  /-- A, accumulator (R11). -/
  a : Byte
  /-- F, the flag byte, stored as a plain byte (R17). -/
  f : Byte
  /-- B (R11). -/
  b : Byte
  /-- C (R11). -/
  c : Byte
  /-- D (R11). -/
  d : Byte
  /-- E (R11). -/
  e : Byte
  /-- H (R11). -/
  h : Byte
  /-- L (R11). -/
  l : Byte
  /-- I "interrupt vector", plain storage (R19). -/
  i : Byte
  /-- R "refresh", plain storage, no counter (R19). -/
  r : Byte
  /-- IX (R14). -/
  ix : Word
  /-- IY, independent of IX (R14). -/
  iy : Word
  /-- SP (R15). -/
  sp : Word
  /-- PC (R16). -/
  pc : Word
  /-- A' to L' (R24). -/
  shadow : ShadowBank
  /-- Running (false) or Halted (true) (R20). -/
  halted : Bool
  /-- The flat address space (20_memory.md R40). -/
  mem : Memory
  /-- The trace output (40_step_dispatch.md R93). -/
  trace : TracePort
  deriving DecidableEq, Repr

/-- Why the engine stops a step. -/
inductive Fault where
  /-- `UnknownOpcode(prefix, opcode)`, the "Single error kind" (60_exceptions.md R190, R191), raised by
  `raiseUnknownOpcode` for an unpopulated slot; `after` is the state the step leaves, delivered with the
  fault (R193, R194; log entry 3). Safe: the spec gives exactly this outcome. -/
  | unknownOpcode (pfx : Option Byte) (opcode : Byte) (after : State)
  deriving DecidableEq, Repr

/-- Why the model has no meaning for an instruction. No arm of `exec` answers with one. -/
inductive Refusal where
  /-- An instruction without a meaning yet, by the table's mnemonic; raised by no arm. Safe. -/
  | notModelled (mnemonic : String)
  deriving DecidableEq, Repr

/-- The state after reset (10_state.md R28): every register 0, Running. No memory byte is listed and no
trace byte emitted; that the observer is detached is a DESIGN CHOICE (log entry 2). -/
def State.reset : State where
  a := 0
  f := 0
  b := 0
  c := 0
  d := 0
  e := 0
  h := 0
  l := 0
  i := 0
  r := 0
  ix := 0
  iy := 0
  sp := 0
  pc := 0
  shadow := .zero
  halted := false
  mem := []
  trace := ⟨[], false, []⟩

end Sys2Proof.Machine
end

