-- ==== Sys2Proof/Machine/Ops.lean ====
section
/-! DEFINITION. The named operations over memory, registers, the instruction stream and the stack, and the
raising of the one exception. -/

namespace Sys2Proof.Machine

/-- The outcome of a meaning or of a step. -/
abbrev Result := Host.Outcome State Fault Refusal

/-! ### Memory (20_memory.md R41) -/

/-- The byte at address `a`. -/
def Memory.get : Memory → Nat → Byte
  | [], _ => Config.unlistedByte
  | (k, w) :: rest, a =>
    if a < k then Config.unlistedByte else if a = k then w else Memory.get rest a

/-- The pair for `v` at `a`, or none where an unlisted address reads as `v` anyway. -/
def Memory.cell (a : Nat) (v : Byte) : Memory :=
  if v = Config.unlistedByte then [] else [(a, v)]

/-- `v` stored at `a`; keeps the canonical form. -/
def Memory.set : Memory → Nat → Byte → Memory
  | [], a, v => Memory.cell a v
  | (k, w) :: rest, a, v =>
    if a < k then Memory.cell a v ++ (k, w) :: rest
    else if a = k then Memory.cell a v ++ rest
    else (k, w) :: Memory.set rest a v

/-- Addresses strictly rising and below 65536, the first at least `lo`, no byte that need not be listed. -/
def Memory.wfFrom : Nat → Memory → Bool
  | _, [] => true
  | lo, (k, w) :: rest =>
    decide (lo ≤ k) && decide (k < Config.addressCount) && decide (w ≠ Config.unlistedByte) &&
      Memory.wfFrom (k + 1) rest

/-- The canonical form of a memory. -/
def Memory.wf (m : Memory) : Bool := Memory.wfFrom 0 m

/-- The memory that holds `img 0` to `img (n - 1)` at addresses 0 to `n - 1`. -/
def Memory.ofImageUpTo (img : Word → Byte) : Nat → Memory
  | 0 => []
  | n + 1 => Memory.set (Memory.ofImageUpTo img n) n (img (BitVec.ofNat 16 n))

/-- The memory that holds the launch image `img` (20_memory.md R55). -/
def Memory.ofImage (img : Word → Byte) : Memory := Memory.ofImageUpTo img Config.addressCount

/-- `MemRead(addr, 1)` (20_memory.md R41). -/
def State.readByte (s : State) (a : Word) : Byte := Memory.get s.mem a.toNat

/-- `MemWrite(addr, 1, v)` (R41). -/
def State.writeByte (s : State) (a : Word) (v : Byte) : State :=
  { s with mem := Memory.set s.mem a.toNat v }

/-- `MemRead(addr, 2)`: low byte at `addr`, high byte at `(addr + 1) mod 65536` (R42). -/
def State.readWord (s : State) (a : Word) : Word := word (s.readByte (a + 1#16)) (s.readByte a)

/-- `MemWrite(addr, 2, v)`: low byte first (R42). -/
def State.writeWord (s : State) (a : Word) (v : Word) : State :=
  (s.writeByte a (lowByte v)).writeByte (a + 1#16) (highByte v)

/-! ### Pair views and plain registers (10_state.md R12 to R16) -/

/-- `AF = {A, F}`. -/
def State.af (s : State) : Word := word s.a s.f
/-- `BC = {B, C}`. -/
def State.bc (s : State) : Word := word s.b s.c
/-- `DE = {D, E}`. -/
def State.de (s : State) : Word := word s.d s.e
/-- `HL = {H, L}`. -/
def State.hl (s : State) : Word := word s.h s.l

/-- `AF <- v`. -/
def State.setAF (s : State) (v : Word) : State := { s with a := highByte v, f := lowByte v }
/-- `BC <- v`. -/
def State.setBC (s : State) (v : Word) : State := { s with b := highByte v, c := lowByte v }
/-- `DE <- v`. -/
def State.setDE (s : State) (v : Word) : State := { s with d := highByte v, e := lowByte v }
/-- `HL <- v`. -/
def State.setHL (s : State) (v : Word) : State := { s with h := highByte v, l := lowByte v }
/-- `SP <- v` (R15). -/
def State.setSP (s : State) (v : Word) : State := { s with sp := v }
/-- `PC <- v` (R16). -/
def State.setPC (s : State) (v : Word) : State := { s with pc := v }
/-- `I <- v` (R19). -/
def State.setI (s : State) (v : Byte) : State := { s with i := v }
/-- `R <- v` (R19). -/
def State.setR (s : State) (v : Byte) : State := { s with r := v }

/-! ### The instruction stream (40_step_dispatch.md R91 to R93) -/

/-- `Trace(b)`: the byte is emitted, and received by the observer if one is attached (R93). -/
def TracePort.emit (p : TracePort) (b : Byte) : TracePort :=
  { p with
    emitted := p.emitted ++ [b]
    delivered := if p.attached then p.delivered ++ [b] else p.delivered }

/-- `Fetch8()`: the byte at PC, then PC advanced by 1 modulo 65536, then the trace event (R91). -/
def State.fetch8 (s : State) : Byte × State :=
  (s.readByte s.pc, { s with pc := s.pc + 1#16, trace := s.trace.emit (s.readByte s.pc) })

/-- `Fetch16()`: two `Fetch8`, low byte first (R92). -/
def State.fetch16 (s : State) : Word × State :=
  (word s.fetch8.2.fetch8.1 s.fetch8.1, s.fetch8.2.fetch8.2)

/-- The state after `k` `Fetch8`. -/
def State.fetchN : Nat → State → State
  | 0, s => s
  | k + 1, s => State.fetchN k s.fetch8.2

/-- The byte that the `k + 1`st `Fetch8` from here would return. -/
def State.streamByte (s : State) (k : Nat) : Byte := (State.fetchN k s).fetch8.1

/-! ### The stack (43_stack.md R170, R171) -/

/-- One half of a push: SP decremented, the byte stored at the new SP. -/
def State.push8 (s : State) (v : Byte) : State := (s.setSP (s.sp - 1#16)).writeByte (s.sp - 1#16) v

/-- `Push16(v)`: the high byte first, so it lies at the higher address (R170). -/
def State.push16 (s : State) (v : Word) : State := (s.push8 (highByte v)).push8 (lowByte v)

/-- One half of a pop: the byte at SP, then SP incremented. -/
def State.pop8 (s : State) : Byte × State := (s.readByte s.sp, s.setSP (s.sp + 1#16))

/-- `Pop16()`: the low byte first (R171). -/
def State.pop16 (s : State) : Word × State :=
  (word s.pop8.2.pop8.1 s.pop8.1, s.pop8.2.pop8.2)

/-! ### The exception (60_exceptions.md R190 to R196) -/

/-- The fault handler of a slot: `raise UnknownOpcode(prefix, opcode)` (R192). The step ends with the
fault and the state it has reached, PC past the bytes consumed, nothing else touched (R193); control goes
nowhere inside the machine (R194), and there is no return instruction (R196). -/
def raiseUnknownOpcode (pfx : Option Byte) (opcode : Byte) (s : State) : Result :=
  .fault (.unknownOpcode pfx opcode s)

end Sys2Proof.Machine
end

