-- ==== Sys2Proof/Machine/Halt.lean ====
section
/-! DEFINITION. The meaning of HALT (44_halt.md). -/

namespace Sys2Proof.Machine

/-- `HALT` (R180): `halted <- 1` and nothing else; PC is already past the 0x76 byte and stays there
(90_conflicts.md C2; log entry 8). -/
def execHalt (s : State) : Result :=
  .next { s with halted := true }

end Sys2Proof.Machine
end

