-- ==== Sys2Proof/Machine/Operands.lean ====
section
/-! DEFINITION. Operand access by name (30_encoding.md R63, R64), the address of an indexed operand
(40_step_dispatch.md R99), and the operations the meanings share. -/

namespace Sys2Proof.Machine

/-- Read of the register operand `r` (R63). -/
def State.reg8 (s : State) : Reg8 → Byte
  | .B => s.b
  | .C => s.c
  | .D => s.d
  | .E => s.e
  | .H => s.h
  | .L => s.l
  | .A => s.a

/-- Write of the register operand `r` (R63). -/
def State.setReg8 (s : State) (r : Reg8) (v : Byte) : State :=
  match r with
  | .B => { s with b := v }
  | .C => { s with c := v }
  | .D => { s with d := v }
  | .E => { s with e := v }
  | .H => { s with h := v }
  | .L => { s with l := v }
  | .A => { s with a := v }

/-- Read of the operand `dd` (R64). -/
def State.pair (s : State) : Pair → Word
  | .BC => s.bc
  | .DE => s.de
  | .HL => s.hl
  | .SP => s.sp

/-- Write of the operand `dd` (R64). -/
def State.setPair (s : State) (p : Pair) (v : Word) : State :=
  match p with
  | .BC => s.setBC v
  | .DE => s.setDE v
  | .HL => s.setHL v
  | .SP => s.setSP v

/-- Read of the operand `qq` (R64). -/
def State.stackPair (s : State) : StackPair → Word
  | .BC => s.bc
  | .DE => s.de
  | .HL => s.hl
  | .AF => s.af

/-- Write of the operand `qq` (R64). -/
def State.setStackPair (s : State) (p : StackPair) (v : Word) : State :=
  match p with
  | .BC => s.setBC v
  | .DE => s.setDE v
  | .HL => s.setHL v
  | .AF => s.setAF v

/-- Read of IX or IY (10_state.md R14). -/
def State.index (s : State) : Index → Word
  | .IX => s.ix
  | .IY => s.iy

/-- Write of IX or IY (10_state.md R14). -/
def State.setIndex (s : State) (x : Index) (v : Word) : State :=
  match x with
  | .IX => { s with ix := v }
  | .IY => { s with iy := v }

/-- The effective address `(XY + sext_16(d)) mod 65536` (40_step_dispatch.md R99). -/
def State.indexed (s : State) (x : Index) (d : Byte) : Word := s.index x + sext16 d

/-! ### What the meanings share -/

/-- A byte written to the register operand `r`, nothing else. -/
def loadReg (r : Reg8) (v : Byte) (s : State) : Result := .next (s.setReg8 r v)

/-- A byte stored at `a`, nothing else. -/
def storeByte (a : Word) (v : Byte) (s : State) : Result := .next (s.writeByte a v)

/-- A word written to the operand `dd`, nothing else. -/
def loadPair (p : Pair) (v : Word) (s : State) : Result := .next (s.setPair p v)

/-- A word written to IX or IY, nothing else. -/
def loadIndex (x : Index) (v : Word) (s : State) : Result := .next (s.setIndex x v)

/-- A word stored at `a`, nothing else. -/
def storeWord (a v : Word) (s : State) : Result := .next (s.writeWord a v)

/-- `Push16(QQ16[p])` (43_stack.md R172). -/
def pushPair (p : StackPair) (s : State) : Result := .next (s.push16 (s.stackPair p))

/-- `Push16(IX)`, `Push16(IY)` (R173, R174). -/
def pushIndex (x : Index) (s : State) : Result := .next (s.push16 (s.index x))

/-- `QQ16[p] <- Pop16()` (R175). -/
def popPair (p : StackPair) (s : State) : Result := .next (s.pop16.2.setStackPair p s.pop16.1)

/-- `IX <- Pop16()`, `IY <- Pop16()` (R176, R177). -/
def popIndex (x : Index) (s : State) : Result := .next (s.pop16.2.setIndex x s.pop16.1)

end Sys2Proof.Machine
end

