-- ==== Sys2Proof/Machine/Ld16.lean ====
section
/-! DEFINITION. The meanings of the 16-bit load family (42_ld16.md). None of them changes F, `halted` or
the shadow bank (R154). -/

namespace Sys2Proof.Machine

/-- `LD BC,nn` (R140). -/
def execLd_BC_nn (nn : Word) (s : State) : Result :=
  loadPair .BC nn s

/-- `LD DE,nn` (R140). -/
def execLd_DE_nn (nn : Word) (s : State) : Result :=
  loadPair .DE nn s

/-- `LD HL,nn` (R140). -/
def execLd_HL_nn (nn : Word) (s : State) : Result :=
  loadPair .HL nn s

/-- `LD SP,nn` (R140). -/
def execLd_SP_nn (nn : Word) (s : State) : Result :=
  loadPair .SP nn s

/-- `LD IX,nn` (R141). -/
def execLd_IX_nn (nn : Word) (s : State) : Result :=
  loadIndex .IX nn s

/-- `LD IY,nn` (R142). -/
def execLd_IY_nn (nn : Word) (s : State) : Result :=
  loadIndex .IY nn s

/-- `LD HL,(nn)` (R143). -/
def execLd_HL_atNN (nn : Word) (s : State) : Result :=
  loadPair .HL (s.readWord nn) s

/-- `LD BC,(nn)` (R144). -/
def execLd_BC_atNN (nn : Word) (s : State) : Result :=
  loadPair .BC (s.readWord nn) s

/-- `LD DE,(nn)` (R144). -/
def execLd_DE_atNN (nn : Word) (s : State) : Result :=
  loadPair .DE (s.readWord nn) s

/-- `LD HL,(nn)` of table `ed` (R144), the second encoding of it (30_encoding.md R74). -/
def execLd_HL_atNN_ED (nn : Word) (s : State) : Result :=
  loadPair .HL (s.readWord nn) s

/-- `LD SP,(nn)` (R144). -/
def execLd_SP_atNN (nn : Word) (s : State) : Result :=
  loadPair .SP (s.readWord nn) s

/-- `LD IX,(nn)` (R145). -/
def execLd_IX_atNN (nn : Word) (s : State) : Result :=
  loadIndex .IX (s.readWord nn) s

/-- `LD IY,(nn)` (R146). -/
def execLd_IY_atNN (nn : Word) (s : State) : Result :=
  loadIndex .IY (s.readWord nn) s

/-- `LD (nn),HL` (R147). -/
def execLd_atNN_HL (nn : Word) (s : State) : Result :=
  storeWord nn (s.pair .HL) s

/-- `LD (nn),BC` (R148). -/
def execLd_atNN_BC (nn : Word) (s : State) : Result :=
  storeWord nn (s.pair .BC) s

/-- `LD (nn),DE` (R148). -/
def execLd_atNN_DE (nn : Word) (s : State) : Result :=
  storeWord nn (s.pair .DE) s

/-- `LD (nn),HL` of table `ed` (R148), the second encoding of it (30_encoding.md R74). -/
def execLd_atNN_HL_ED (nn : Word) (s : State) : Result :=
  storeWord nn (s.pair .HL) s

/-- `LD (nn),SP` (R148). -/
def execLd_atNN_SP (nn : Word) (s : State) : Result :=
  storeWord nn (s.pair .SP) s

/-- `LD (nn),IX` (R149). -/
def execLd_atNN_IX (nn : Word) (s : State) : Result :=
  storeWord nn (s.index .IX) s

/-- `LD (nn),IY` (R150). -/
def execLd_atNN_IY (nn : Word) (s : State) : Result :=
  storeWord nn (s.index .IY) s

/-- `LD SP,HL` (R151). -/
def execLd_SP_HL (s : State) : Result :=
  loadPair .SP s.hl s

/-- `LD SP,IX` (R152). -/
def execLd_SP_IX (s : State) : Result :=
  loadPair .SP (s.index .IX) s

/-- `LD SP,IY` (R153). -/
def execLd_SP_IY (s : State) : Result :=
  loadPair .SP (s.index .IY) s

end Sys2Proof.Machine
end

