-- ==== Sys2Proof/Machine/Ld8.lean ====
section
/-! DEFINITION. The meanings of the 8-bit load family (41_ld8.md). A meaning runs after all of the
instruction's bytes have been fetched, with PC past them (40_step_dispatch.md R102; log entry 3). None of
them changes F, `halted`, SP, IX, IY or the shadow bank (R131). -/

namespace Sys2Proof.Machine

/-- `LD B,B` (R110). -/
def execLd_B_B (s : State) : Result :=
  loadReg .B (s.reg8 .B) s

/-- `LD B,C` (R110). -/
def execLd_B_C (s : State) : Result :=
  loadReg .B (s.reg8 .C) s

/-- `LD B,D` (R110). -/
def execLd_B_D (s : State) : Result :=
  loadReg .B (s.reg8 .D) s

/-- `LD B,E` (R110). -/
def execLd_B_E (s : State) : Result :=
  loadReg .B (s.reg8 .E) s

/-- `LD B,H` (R110). -/
def execLd_B_H (s : State) : Result :=
  loadReg .B (s.reg8 .H) s

/-- `LD B,L` (R110). -/
def execLd_B_L (s : State) : Result :=
  loadReg .B (s.reg8 .L) s

/-- `LD B,A` (R110). -/
def execLd_B_A (s : State) : Result :=
  loadReg .B (s.reg8 .A) s

/-- `LD C,B` (R110). -/
def execLd_C_B (s : State) : Result :=
  loadReg .C (s.reg8 .B) s

/-- `LD C,C` (R110). -/
def execLd_C_C (s : State) : Result :=
  loadReg .C (s.reg8 .C) s

/-- `LD C,D` (R110). -/
def execLd_C_D (s : State) : Result :=
  loadReg .C (s.reg8 .D) s

/-- `LD C,E` (R110). -/
def execLd_C_E (s : State) : Result :=
  loadReg .C (s.reg8 .E) s

/-- `LD C,H` (R110). -/
def execLd_C_H (s : State) : Result :=
  loadReg .C (s.reg8 .H) s

/-- `LD C,L` (R110). -/
def execLd_C_L (s : State) : Result :=
  loadReg .C (s.reg8 .L) s

/-- `LD C,A` (R110). -/
def execLd_C_A (s : State) : Result :=
  loadReg .C (s.reg8 .A) s

/-- `LD D,B` (R110). -/
def execLd_D_B (s : State) : Result :=
  loadReg .D (s.reg8 .B) s

/-- `LD D,C` (R110). -/
def execLd_D_C (s : State) : Result :=
  loadReg .D (s.reg8 .C) s

/-- `LD D,D` (R110). -/
def execLd_D_D (s : State) : Result :=
  loadReg .D (s.reg8 .D) s

/-- `LD D,E` (R110). -/
def execLd_D_E (s : State) : Result :=
  loadReg .D (s.reg8 .E) s

/-- `LD D,H` (R110). -/
def execLd_D_H (s : State) : Result :=
  loadReg .D (s.reg8 .H) s

/-- `LD D,L` (R110). -/
def execLd_D_L (s : State) : Result :=
  loadReg .D (s.reg8 .L) s

/-- `LD D,A` (R110). -/
def execLd_D_A (s : State) : Result :=
  loadReg .D (s.reg8 .A) s

/-- `LD E,B` (R110). -/
def execLd_E_B (s : State) : Result :=
  loadReg .E (s.reg8 .B) s

/-- `LD E,C` (R110). -/
def execLd_E_C (s : State) : Result :=
  loadReg .E (s.reg8 .C) s

/-- `LD E,D` (R110). -/
def execLd_E_D (s : State) : Result :=
  loadReg .E (s.reg8 .D) s

/-- `LD E,E` (R110). -/
def execLd_E_E (s : State) : Result :=
  loadReg .E (s.reg8 .E) s

/-- `LD E,H` (R110). -/
def execLd_E_H (s : State) : Result :=
  loadReg .E (s.reg8 .H) s

/-- `LD E,L` (R110). -/
def execLd_E_L (s : State) : Result :=
  loadReg .E (s.reg8 .L) s

/-- `LD E,A` (R110). -/
def execLd_E_A (s : State) : Result :=
  loadReg .E (s.reg8 .A) s

/-- `LD H,B` (R110). -/
def execLd_H_B (s : State) : Result :=
  loadReg .H (s.reg8 .B) s

/-- `LD H,C` (R110). -/
def execLd_H_C (s : State) : Result :=
  loadReg .H (s.reg8 .C) s

/-- `LD H,D` (R110). -/
def execLd_H_D (s : State) : Result :=
  loadReg .H (s.reg8 .D) s

/-- `LD H,E` (R110). -/
def execLd_H_E (s : State) : Result :=
  loadReg .H (s.reg8 .E) s

/-- `LD H,H` (R110). -/
def execLd_H_H (s : State) : Result :=
  loadReg .H (s.reg8 .H) s

/-- `LD H,L` (R110). -/
def execLd_H_L (s : State) : Result :=
  loadReg .H (s.reg8 .L) s

/-- `LD H,A` (R110). -/
def execLd_H_A (s : State) : Result :=
  loadReg .H (s.reg8 .A) s

/-- `LD L,B` (R110). -/
def execLd_L_B (s : State) : Result :=
  loadReg .L (s.reg8 .B) s

/-- `LD L,C` (R110). -/
def execLd_L_C (s : State) : Result :=
  loadReg .L (s.reg8 .C) s

/-- `LD L,D` (R110). -/
def execLd_L_D (s : State) : Result :=
  loadReg .L (s.reg8 .D) s

/-- `LD L,E` (R110). -/
def execLd_L_E (s : State) : Result :=
  loadReg .L (s.reg8 .E) s

/-- `LD L,H` (R110). -/
def execLd_L_H (s : State) : Result :=
  loadReg .L (s.reg8 .H) s

/-- `LD L,L` (R110). -/
def execLd_L_L (s : State) : Result :=
  loadReg .L (s.reg8 .L) s

/-- `LD L,A` (R110). -/
def execLd_L_A (s : State) : Result :=
  loadReg .L (s.reg8 .A) s

/-- `LD A,B` (R110). -/
def execLd_A_B (s : State) : Result :=
  loadReg .A (s.reg8 .B) s

/-- `LD A,C` (R110). -/
def execLd_A_C (s : State) : Result :=
  loadReg .A (s.reg8 .C) s

/-- `LD A,D` (R110). -/
def execLd_A_D (s : State) : Result :=
  loadReg .A (s.reg8 .D) s

/-- `LD A,E` (R110). -/
def execLd_A_E (s : State) : Result :=
  loadReg .A (s.reg8 .E) s

/-- `LD A,H` (R110). -/
def execLd_A_H (s : State) : Result :=
  loadReg .A (s.reg8 .H) s

/-- `LD A,L` (R110). -/
def execLd_A_L (s : State) : Result :=
  loadReg .A (s.reg8 .L) s

/-- `LD A,A` (R110). -/
def execLd_A_A (s : State) : Result :=
  loadReg .A (s.reg8 .A) s

/-- `LD B,n` (R111). -/
def execLd_B_n (n : Byte) (s : State) : Result :=
  loadReg .B n s

/-- `LD C,n` (R111). -/
def execLd_C_n (n : Byte) (s : State) : Result :=
  loadReg .C n s

/-- `LD D,n` (R111). -/
def execLd_D_n (n : Byte) (s : State) : Result :=
  loadReg .D n s

/-- `LD E,n` (R111). -/
def execLd_E_n (n : Byte) (s : State) : Result :=
  loadReg .E n s

/-- `LD H,n` (R111). -/
def execLd_H_n (n : Byte) (s : State) : Result :=
  loadReg .H n s

/-- `LD L,n` (R111). -/
def execLd_L_n (n : Byte) (s : State) : Result :=
  loadReg .L n s

/-- `LD A,n` (R111). -/
def execLd_A_n (n : Byte) (s : State) : Result :=
  loadReg .A n s

/-- `LD B,(HL)` (R112). -/
def execLd_B_atHL (s : State) : Result :=
  loadReg .B (s.readByte s.hl) s

/-- `LD C,(HL)` (R112). -/
def execLd_C_atHL (s : State) : Result :=
  loadReg .C (s.readByte s.hl) s

/-- `LD D,(HL)` (R112). -/
def execLd_D_atHL (s : State) : Result :=
  loadReg .D (s.readByte s.hl) s

/-- `LD E,(HL)` (R112). -/
def execLd_E_atHL (s : State) : Result :=
  loadReg .E (s.readByte s.hl) s

/-- `LD H,(HL)` (R112). -/
def execLd_H_atHL (s : State) : Result :=
  loadReg .H (s.readByte s.hl) s

/-- `LD L,(HL)` (R112). -/
def execLd_L_atHL (s : State) : Result :=
  loadReg .L (s.readByte s.hl) s

/-- `LD A,(HL)` (R112). -/
def execLd_A_atHL (s : State) : Result :=
  loadReg .A (s.readByte s.hl) s

/-- `LD B,(IX+d)` (R113). -/
def execLd_B_atIX (d : Byte) (s : State) : Result :=
  loadReg .B (s.readByte (s.indexed .IX d)) s

/-- `LD C,(IX+d)` (R113). -/
def execLd_C_atIX (d : Byte) (s : State) : Result :=
  loadReg .C (s.readByte (s.indexed .IX d)) s

/-- `LD D,(IX+d)` (R113). -/
def execLd_D_atIX (d : Byte) (s : State) : Result :=
  loadReg .D (s.readByte (s.indexed .IX d)) s

/-- `LD E,(IX+d)` (R113). -/
def execLd_E_atIX (d : Byte) (s : State) : Result :=
  loadReg .E (s.readByte (s.indexed .IX d)) s

/-- `LD H,(IX+d)` (R113). -/
def execLd_H_atIX (d : Byte) (s : State) : Result :=
  loadReg .H (s.readByte (s.indexed .IX d)) s

/-- `LD L,(IX+d)` (R113). -/
def execLd_L_atIX (d : Byte) (s : State) : Result :=
  loadReg .L (s.readByte (s.indexed .IX d)) s

/-- `LD A,(IX+d)` (R113). -/
def execLd_A_atIX (d : Byte) (s : State) : Result :=
  loadReg .A (s.readByte (s.indexed .IX d)) s

/-- `LD B,(IY+d)` (R114). -/
def execLd_B_atIY (d : Byte) (s : State) : Result :=
  loadReg .B (s.readByte (s.indexed .IY d)) s

/-- `LD C,(IY+d)` (R114). -/
def execLd_C_atIY (d : Byte) (s : State) : Result :=
  loadReg .C (s.readByte (s.indexed .IY d)) s

/-- `LD D,(IY+d)` (R114). -/
def execLd_D_atIY (d : Byte) (s : State) : Result :=
  loadReg .D (s.readByte (s.indexed .IY d)) s

/-- `LD E,(IY+d)` (R114). -/
def execLd_E_atIY (d : Byte) (s : State) : Result :=
  loadReg .E (s.readByte (s.indexed .IY d)) s

/-- `LD H,(IY+d)` (R114). -/
def execLd_H_atIY (d : Byte) (s : State) : Result :=
  loadReg .H (s.readByte (s.indexed .IY d)) s

/-- `LD L,(IY+d)` (R114). -/
def execLd_L_atIY (d : Byte) (s : State) : Result :=
  loadReg .L (s.readByte (s.indexed .IY d)) s

/-- `LD A,(IY+d)` (R114). -/
def execLd_A_atIY (d : Byte) (s : State) : Result :=
  loadReg .A (s.readByte (s.indexed .IY d)) s

/-- `LD (HL),B` (R115). -/
def execLd_atHL_B (s : State) : Result :=
  storeByte s.hl (s.reg8 .B) s

/-- `LD (HL),C` (R115). -/
def execLd_atHL_C (s : State) : Result :=
  storeByte s.hl (s.reg8 .C) s

/-- `LD (HL),D` (R115). -/
def execLd_atHL_D (s : State) : Result :=
  storeByte s.hl (s.reg8 .D) s

/-- `LD (HL),E` (R115). -/
def execLd_atHL_E (s : State) : Result :=
  storeByte s.hl (s.reg8 .E) s

/-- `LD (HL),H` (R115). -/
def execLd_atHL_H (s : State) : Result :=
  storeByte s.hl (s.reg8 .H) s

/-- `LD (HL),L` (R115). -/
def execLd_atHL_L (s : State) : Result :=
  storeByte s.hl (s.reg8 .L) s

/-- `LD (HL),A` (R115). -/
def execLd_atHL_A (s : State) : Result :=
  storeByte s.hl (s.reg8 .A) s

/-- `LD (IX+d),B` (R116). -/
def execLd_atIX_B (d : Byte) (s : State) : Result :=
  storeByte (s.indexed .IX d) (s.reg8 .B) s

/-- `LD (IX+d),C` (R116). -/
def execLd_atIX_C (d : Byte) (s : State) : Result :=
  storeByte (s.indexed .IX d) (s.reg8 .C) s

/-- `LD (IX+d),D` (R116). -/
def execLd_atIX_D (d : Byte) (s : State) : Result :=
  storeByte (s.indexed .IX d) (s.reg8 .D) s

/-- `LD (IX+d),E` (R116). -/
def execLd_atIX_E (d : Byte) (s : State) : Result :=
  storeByte (s.indexed .IX d) (s.reg8 .E) s

/-- `LD (IX+d),H` (R116). -/
def execLd_atIX_H (d : Byte) (s : State) : Result :=
  storeByte (s.indexed .IX d) (s.reg8 .H) s

/-- `LD (IX+d),L` (R116). -/
def execLd_atIX_L (d : Byte) (s : State) : Result :=
  storeByte (s.indexed .IX d) (s.reg8 .L) s

/-- `LD (IX+d),A` (R116). -/
def execLd_atIX_A (d : Byte) (s : State) : Result :=
  storeByte (s.indexed .IX d) (s.reg8 .A) s

/-- `LD (IY+d),B` (R117). -/
def execLd_atIY_B (d : Byte) (s : State) : Result :=
  storeByte (s.indexed .IY d) (s.reg8 .B) s

/-- `LD (IY+d),C` (R117). -/
def execLd_atIY_C (d : Byte) (s : State) : Result :=
  storeByte (s.indexed .IY d) (s.reg8 .C) s

/-- `LD (IY+d),D` (R117). -/
def execLd_atIY_D (d : Byte) (s : State) : Result :=
  storeByte (s.indexed .IY d) (s.reg8 .D) s

/-- `LD (IY+d),E` (R117). -/
def execLd_atIY_E (d : Byte) (s : State) : Result :=
  storeByte (s.indexed .IY d) (s.reg8 .E) s

/-- `LD (IY+d),H` (R117). -/
def execLd_atIY_H (d : Byte) (s : State) : Result :=
  storeByte (s.indexed .IY d) (s.reg8 .H) s

/-- `LD (IY+d),L` (R117). -/
def execLd_atIY_L (d : Byte) (s : State) : Result :=
  storeByte (s.indexed .IY d) (s.reg8 .L) s

/-- `LD (IY+d),A` (R117). -/
def execLd_atIY_A (d : Byte) (s : State) : Result :=
  storeByte (s.indexed .IY d) (s.reg8 .A) s

/-- `LD (HL),n` (R118). -/
def execLd_atHL_n (n : Byte) (s : State) : Result :=
  storeByte s.hl n s

/-- `LD (IX+d),n` (R119). -/
def execLd_atIX_n (d : Byte) (n : Byte) (s : State) : Result :=
  storeByte (s.indexed .IX d) n s

/-- `LD (IY+d),n` (R120). -/
def execLd_atIY_n (d : Byte) (n : Byte) (s : State) : Result :=
  storeByte (s.indexed .IY d) n s

/-- `LD A,(BC)` (R121). -/
def execLd_A_atBC (s : State) : Result :=
  loadReg .A (s.readByte s.bc) s

/-- `LD A,(DE)` (R122). -/
def execLd_A_atDE (s : State) : Result :=
  loadReg .A (s.readByte s.de) s

/-- `LD A,(nn)` (R123). -/
def execLd_A_atNN (nn : Word) (s : State) : Result :=
  loadReg .A (s.readByte nn) s

/-- `LD (BC),A` (R124). -/
def execLd_atBC_A (s : State) : Result :=
  storeByte s.bc s.a s

/-- `LD (DE),A` (R125). -/
def execLd_atDE_A (s : State) : Result :=
  storeByte s.de s.a s

/-- `LD (nn),A` (R126). -/
def execLd_atNN_A (nn : Word) (s : State) : Result :=
  storeByte nn s.a s

/-- `LD A,I` (R127). -/
def execLd_A_I (s : State) : Result :=
  loadReg .A s.i s

/-- `LD A,R` (R128). -/
def execLd_A_R (s : State) : Result :=
  loadReg .A s.r s

/-- `LD I,A` (R129). -/
def execLd_I_A (s : State) : Result :=
  .next (s.setI s.a)

/-- `LD R,A` (R130). -/
def execLd_R_A (s : State) : Result :=
  .next (s.setR s.a)

end Sys2Proof.Machine
end

