-- ==== Sys2Proof/Machine/Stack.lean ====
section
/-! DEFINITION. The meanings of PUSH and POP (43_stack.md). -/

namespace Sys2Proof.Machine

/-- `PUSH BC` (R172). -/
def execPush_BC (s : State) : Result :=
  pushPair .BC s

/-- `PUSH DE` (R172). -/
def execPush_DE (s : State) : Result :=
  pushPair .DE s

/-- `PUSH HL` (R172). -/
def execPush_HL (s : State) : Result :=
  pushPair .HL s

/-- `PUSH AF` (R172). -/
def execPush_AF (s : State) : Result :=
  pushPair .AF s

/-- `PUSH IX` (R173). -/
def execPush_IX (s : State) : Result :=
  pushIndex .IX s

/-- `PUSH IY` (R174). -/
def execPush_IY (s : State) : Result :=
  pushIndex .IY s

/-- `POP BC` (R175). -/
def execPop_BC (s : State) : Result :=
  popPair .BC s

/-- `POP DE` (R175). -/
def execPop_DE (s : State) : Result :=
  popPair .DE s

/-- `POP HL` (R175). -/
def execPop_HL (s : State) : Result :=
  popPair .HL s

/-- `POP AF` (R175). -/
def execPop_AF (s : State) : Result :=
  popPair .AF s

/-- `POP IX` (R176). -/
def execPop_IX (s : State) : Result :=
  popIndex .IX s

/-- `POP IY` (R177). -/
def execPop_IY (s : State) : Result :=
  popIndex .IY s

end Sys2Proof.Machine
end

