-- ==== Sys2Proof/Machine/Prefix.lean ====
section
/-! DEFINITION. The three prefix slots of `main` (40_step_dispatch.md R95 to R97) and the handler tables
`dd`, `fd`, `ed` they select. A handler is called with the state after its opcode byte, and fetches its
own operand bytes by `Fetch8` and `Fetch16`, as the rules' pseudocode has it; every slot that no
instruction fills holds the fault handler (30_encoding.md R70). -/

namespace Sys2Proof.Machine

/-- Table `dd` of handlers (30_encoding.md R67). -/
def ddHandler (op : Byte) (s : State) : Result :=
  match op.toNat with
  | 0x21 => execLd_IX_nn s.fetch16.1 s.fetch16.2
  | 0x22 => execLd_atNN_IX s.fetch16.1 s.fetch16.2
  | 0x2A => execLd_IX_atNN s.fetch16.1 s.fetch16.2
  | 0x36 => execLd_atIX_n s.fetch8.1 s.fetch8.2.fetch8.1 s.fetch8.2.fetch8.2
  | 0x46 => execLd_B_atIX s.fetch8.1 s.fetch8.2
  | 0x4E => execLd_C_atIX s.fetch8.1 s.fetch8.2
  | 0x56 => execLd_D_atIX s.fetch8.1 s.fetch8.2
  | 0x5E => execLd_E_atIX s.fetch8.1 s.fetch8.2
  | 0x66 => execLd_H_atIX s.fetch8.1 s.fetch8.2
  | 0x6E => execLd_L_atIX s.fetch8.1 s.fetch8.2
  | 0x70 => execLd_atIX_B s.fetch8.1 s.fetch8.2
  | 0x71 => execLd_atIX_C s.fetch8.1 s.fetch8.2
  | 0x72 => execLd_atIX_D s.fetch8.1 s.fetch8.2
  | 0x73 => execLd_atIX_E s.fetch8.1 s.fetch8.2
  | 0x74 => execLd_atIX_H s.fetch8.1 s.fetch8.2
  | 0x75 => execLd_atIX_L s.fetch8.1 s.fetch8.2
  | 0x77 => execLd_atIX_A s.fetch8.1 s.fetch8.2
  | 0x7E => execLd_A_atIX s.fetch8.1 s.fetch8.2
  | 0xE1 => execPop_IX s
  | 0xE5 => execPush_IX s
  | 0xF9 => execLd_SP_IX s
  | _ => raiseUnknownOpcode (some 0xDD) op s

/-- Table `fd` of handlers (30_encoding.md R68). -/
def fdHandler (op : Byte) (s : State) : Result :=
  match op.toNat with
  | 0x21 => execLd_IY_nn s.fetch16.1 s.fetch16.2
  | 0x22 => execLd_atNN_IY s.fetch16.1 s.fetch16.2
  | 0x2A => execLd_IY_atNN s.fetch16.1 s.fetch16.2
  | 0x36 => execLd_atIY_n s.fetch8.1 s.fetch8.2.fetch8.1 s.fetch8.2.fetch8.2
  | 0x46 => execLd_B_atIY s.fetch8.1 s.fetch8.2
  | 0x4E => execLd_C_atIY s.fetch8.1 s.fetch8.2
  | 0x56 => execLd_D_atIY s.fetch8.1 s.fetch8.2
  | 0x5E => execLd_E_atIY s.fetch8.1 s.fetch8.2
  | 0x66 => execLd_H_atIY s.fetch8.1 s.fetch8.2
  | 0x6E => execLd_L_atIY s.fetch8.1 s.fetch8.2
  | 0x70 => execLd_atIY_B s.fetch8.1 s.fetch8.2
  | 0x71 => execLd_atIY_C s.fetch8.1 s.fetch8.2
  | 0x72 => execLd_atIY_D s.fetch8.1 s.fetch8.2
  | 0x73 => execLd_atIY_E s.fetch8.1 s.fetch8.2
  | 0x74 => execLd_atIY_H s.fetch8.1 s.fetch8.2
  | 0x75 => execLd_atIY_L s.fetch8.1 s.fetch8.2
  | 0x77 => execLd_atIY_A s.fetch8.1 s.fetch8.2
  | 0x7E => execLd_A_atIY s.fetch8.1 s.fetch8.2
  | 0xE1 => execPop_IY s
  | 0xE5 => execPush_IY s
  | 0xF9 => execLd_SP_IY s
  | _ => raiseUnknownOpcode (some 0xFD) op s

/-- Table `ed` of handlers (30_encoding.md R69). -/
def edHandler (op : Byte) (s : State) : Result :=
  match op.toNat with
  | 0x43 => execLd_atNN_BC s.fetch16.1 s.fetch16.2
  | 0x47 => execLd_I_A s
  | 0x4B => execLd_BC_atNN s.fetch16.1 s.fetch16.2
  | 0x4F => execLd_R_A s
  | 0x53 => execLd_atNN_DE s.fetch16.1 s.fetch16.2
  | 0x57 => execLd_A_I s
  | 0x5B => execLd_DE_atNN s.fetch16.1 s.fetch16.2
  | 0x5F => execLd_A_R s
  | 0x63 => execLd_atNN_HL_ED s.fetch16.1 s.fetch16.2
  | 0x6B => execLd_HL_atNN_ED s.fetch16.1 s.fetch16.2
  | 0x73 => execLd_atNN_SP s.fetch16.1 s.fetch16.2
  | 0x7B => execLd_SP_atNN s.fetch16.1 s.fetch16.2
  | _ => raiseUnknownOpcode (some 0xED) op s

/-- Prefix `DD` (R95): fetch one more byte, look it up in table `dd`, call the handler found. The state
given is the one after the prefix byte. -/
def execPrefix_DD (s : State) : Result :=
  ddHandler s.fetch8.1 s.fetch8.2

/-- Prefix `FD` (R96): fetch one more byte, look it up in table `fd`, call the handler found. The state
given is the one after the prefix byte. -/
def execPrefix_FD (s : State) : Result :=
  fdHandler s.fetch8.1 s.fetch8.2

/-- Prefix `ED` (R97): fetch one more byte, look it up in table `ed`, call the handler found. The state
given is the one after the prefix byte. -/
def execPrefix_ED (s : State) : Result :=
  edHandler s.fetch8.1 s.fetch8.2

end Sys2Proof.Machine
end

