-- ==== Sys2Proof/Machine/Dispatch.lean ====
section
/-! DEFINITION. The meaning of every instruction, one arm per constructor of `Instr`. -/

namespace Sys2Proof.Machine

def exec (i : Instr) (s : State) : Host.Outcome State Fault Refusal :=
  match i with
  | .ld_BC_nn nn => Sys2Proof.Machine.execLd_BC_nn nn s
  | .ld_atBC_A => Sys2Proof.Machine.execLd_atBC_A s
  | .ld_B_n n => Sys2Proof.Machine.execLd_B_n n s
  | .ld_A_atBC => Sys2Proof.Machine.execLd_A_atBC s
  | .ld_C_n n => Sys2Proof.Machine.execLd_C_n n s
  | .ld_DE_nn nn => Sys2Proof.Machine.execLd_DE_nn nn s
  | .ld_atDE_A => Sys2Proof.Machine.execLd_atDE_A s
  | .ld_D_n n => Sys2Proof.Machine.execLd_D_n n s
  | .ld_A_atDE => Sys2Proof.Machine.execLd_A_atDE s
  | .ld_E_n n => Sys2Proof.Machine.execLd_E_n n s
  | .ld_HL_nn nn => Sys2Proof.Machine.execLd_HL_nn nn s
  | .ld_atNN_HL nn => Sys2Proof.Machine.execLd_atNN_HL nn s
  | .ld_H_n n => Sys2Proof.Machine.execLd_H_n n s
  | .ld_HL_atNN nn => Sys2Proof.Machine.execLd_HL_atNN nn s
  | .ld_L_n n => Sys2Proof.Machine.execLd_L_n n s
  | .ld_SP_nn nn => Sys2Proof.Machine.execLd_SP_nn nn s
  | .ld_atNN_A nn => Sys2Proof.Machine.execLd_atNN_A nn s
  | .ld_atHL_n n => Sys2Proof.Machine.execLd_atHL_n n s
  | .ld_A_atNN nn => Sys2Proof.Machine.execLd_A_atNN nn s
  | .ld_A_n n => Sys2Proof.Machine.execLd_A_n n s
  | .ld_B_B => Sys2Proof.Machine.execLd_B_B s
  | .ld_B_C => Sys2Proof.Machine.execLd_B_C s
  | .ld_B_D => Sys2Proof.Machine.execLd_B_D s
  | .ld_B_E => Sys2Proof.Machine.execLd_B_E s
  | .ld_B_H => Sys2Proof.Machine.execLd_B_H s
  | .ld_B_L => Sys2Proof.Machine.execLd_B_L s
  | .ld_B_atHL => Sys2Proof.Machine.execLd_B_atHL s
  | .ld_B_A => Sys2Proof.Machine.execLd_B_A s
  | .ld_C_B => Sys2Proof.Machine.execLd_C_B s
  | .ld_C_C => Sys2Proof.Machine.execLd_C_C s
  | .ld_C_D => Sys2Proof.Machine.execLd_C_D s
  | .ld_C_E => Sys2Proof.Machine.execLd_C_E s
  | .ld_C_H => Sys2Proof.Machine.execLd_C_H s
  | .ld_C_L => Sys2Proof.Machine.execLd_C_L s
  | .ld_C_atHL => Sys2Proof.Machine.execLd_C_atHL s
  | .ld_C_A => Sys2Proof.Machine.execLd_C_A s
  | .ld_D_B => Sys2Proof.Machine.execLd_D_B s
  | .ld_D_C => Sys2Proof.Machine.execLd_D_C s
  | .ld_D_D => Sys2Proof.Machine.execLd_D_D s
  | .ld_D_E => Sys2Proof.Machine.execLd_D_E s
  | .ld_D_H => Sys2Proof.Machine.execLd_D_H s
  | .ld_D_L => Sys2Proof.Machine.execLd_D_L s
  | .ld_D_atHL => Sys2Proof.Machine.execLd_D_atHL s
  | .ld_D_A => Sys2Proof.Machine.execLd_D_A s
  | .ld_E_B => Sys2Proof.Machine.execLd_E_B s
  | .ld_E_C => Sys2Proof.Machine.execLd_E_C s
  | .ld_E_D => Sys2Proof.Machine.execLd_E_D s
  | .ld_E_E => Sys2Proof.Machine.execLd_E_E s
  | .ld_E_H => Sys2Proof.Machine.execLd_E_H s
  | .ld_E_L => Sys2Proof.Machine.execLd_E_L s
  | .ld_E_atHL => Sys2Proof.Machine.execLd_E_atHL s
  | .ld_E_A => Sys2Proof.Machine.execLd_E_A s
  | .ld_H_B => Sys2Proof.Machine.execLd_H_B s
  | .ld_H_C => Sys2Proof.Machine.execLd_H_C s
  | .ld_H_D => Sys2Proof.Machine.execLd_H_D s
  | .ld_H_E => Sys2Proof.Machine.execLd_H_E s
  | .ld_H_H => Sys2Proof.Machine.execLd_H_H s
  | .ld_H_L => Sys2Proof.Machine.execLd_H_L s
  | .ld_H_atHL => Sys2Proof.Machine.execLd_H_atHL s
  | .ld_H_A => Sys2Proof.Machine.execLd_H_A s
  | .ld_L_B => Sys2Proof.Machine.execLd_L_B s
  | .ld_L_C => Sys2Proof.Machine.execLd_L_C s
  | .ld_L_D => Sys2Proof.Machine.execLd_L_D s
  | .ld_L_E => Sys2Proof.Machine.execLd_L_E s
  | .ld_L_H => Sys2Proof.Machine.execLd_L_H s
  | .ld_L_L => Sys2Proof.Machine.execLd_L_L s
  | .ld_L_atHL => Sys2Proof.Machine.execLd_L_atHL s
  | .ld_L_A => Sys2Proof.Machine.execLd_L_A s
  | .ld_atHL_B => Sys2Proof.Machine.execLd_atHL_B s
  | .ld_atHL_C => Sys2Proof.Machine.execLd_atHL_C s
  | .ld_atHL_D => Sys2Proof.Machine.execLd_atHL_D s
  | .ld_atHL_E => Sys2Proof.Machine.execLd_atHL_E s
  | .ld_atHL_H => Sys2Proof.Machine.execLd_atHL_H s
  | .ld_atHL_L => Sys2Proof.Machine.execLd_atHL_L s
  | .halt => Sys2Proof.Machine.execHalt s
  | .ld_atHL_A => Sys2Proof.Machine.execLd_atHL_A s
  | .ld_A_B => Sys2Proof.Machine.execLd_A_B s
  | .ld_A_C => Sys2Proof.Machine.execLd_A_C s
  | .ld_A_D => Sys2Proof.Machine.execLd_A_D s
  | .ld_A_E => Sys2Proof.Machine.execLd_A_E s
  | .ld_A_H => Sys2Proof.Machine.execLd_A_H s
  | .ld_A_L => Sys2Proof.Machine.execLd_A_L s
  | .ld_A_atHL => Sys2Proof.Machine.execLd_A_atHL s
  | .ld_A_A => Sys2Proof.Machine.execLd_A_A s
  | .pop_BC => Sys2Proof.Machine.execPop_BC s
  | .push_BC => Sys2Proof.Machine.execPush_BC s
  | .pop_DE => Sys2Proof.Machine.execPop_DE s
  | .push_DE => Sys2Proof.Machine.execPush_DE s
  | .prefix_DD => Sys2Proof.Machine.execPrefix_DD s
  | .pop_HL => Sys2Proof.Machine.execPop_HL s
  | .push_HL => Sys2Proof.Machine.execPush_HL s
  | .prefix_ED => Sys2Proof.Machine.execPrefix_ED s
  | .pop_AF => Sys2Proof.Machine.execPop_AF s
  | .push_AF => Sys2Proof.Machine.execPush_AF s
  | .ld_SP_HL => Sys2Proof.Machine.execLd_SP_HL s
  | .prefix_FD => Sys2Proof.Machine.execPrefix_FD s
  | .ld_IX_nn nn => Sys2Proof.Machine.execLd_IX_nn nn s
  | .ld_atNN_IX nn => Sys2Proof.Machine.execLd_atNN_IX nn s
  | .ld_IX_atNN nn => Sys2Proof.Machine.execLd_IX_atNN nn s
  | .ld_atIX_n d n => Sys2Proof.Machine.execLd_atIX_n d n s
  | .ld_B_atIX d => Sys2Proof.Machine.execLd_B_atIX d s
  | .ld_C_atIX d => Sys2Proof.Machine.execLd_C_atIX d s
  | .ld_D_atIX d => Sys2Proof.Machine.execLd_D_atIX d s
  | .ld_E_atIX d => Sys2Proof.Machine.execLd_E_atIX d s
  | .ld_H_atIX d => Sys2Proof.Machine.execLd_H_atIX d s
  | .ld_L_atIX d => Sys2Proof.Machine.execLd_L_atIX d s
  | .ld_atIX_B d => Sys2Proof.Machine.execLd_atIX_B d s
  | .ld_atIX_C d => Sys2Proof.Machine.execLd_atIX_C d s
  | .ld_atIX_D d => Sys2Proof.Machine.execLd_atIX_D d s
  | .ld_atIX_E d => Sys2Proof.Machine.execLd_atIX_E d s
  | .ld_atIX_H d => Sys2Proof.Machine.execLd_atIX_H d s
  | .ld_atIX_L d => Sys2Proof.Machine.execLd_atIX_L d s
  | .ld_atIX_A d => Sys2Proof.Machine.execLd_atIX_A d s
  | .ld_A_atIX d => Sys2Proof.Machine.execLd_A_atIX d s
  | .pop_IX => Sys2Proof.Machine.execPop_IX s
  | .push_IX => Sys2Proof.Machine.execPush_IX s
  | .ld_SP_IX => Sys2Proof.Machine.execLd_SP_IX s
  | .ld_IY_nn nn => Sys2Proof.Machine.execLd_IY_nn nn s
  | .ld_atNN_IY nn => Sys2Proof.Machine.execLd_atNN_IY nn s
  | .ld_IY_atNN nn => Sys2Proof.Machine.execLd_IY_atNN nn s
  | .ld_atIY_n d n => Sys2Proof.Machine.execLd_atIY_n d n s
  | .ld_B_atIY d => Sys2Proof.Machine.execLd_B_atIY d s
  | .ld_C_atIY d => Sys2Proof.Machine.execLd_C_atIY d s
  | .ld_D_atIY d => Sys2Proof.Machine.execLd_D_atIY d s
  | .ld_E_atIY d => Sys2Proof.Machine.execLd_E_atIY d s
  | .ld_H_atIY d => Sys2Proof.Machine.execLd_H_atIY d s
  | .ld_L_atIY d => Sys2Proof.Machine.execLd_L_atIY d s
  | .ld_atIY_B d => Sys2Proof.Machine.execLd_atIY_B d s
  | .ld_atIY_C d => Sys2Proof.Machine.execLd_atIY_C d s
  | .ld_atIY_D d => Sys2Proof.Machine.execLd_atIY_D d s
  | .ld_atIY_E d => Sys2Proof.Machine.execLd_atIY_E d s
  | .ld_atIY_H d => Sys2Proof.Machine.execLd_atIY_H d s
  | .ld_atIY_L d => Sys2Proof.Machine.execLd_atIY_L d s
  | .ld_atIY_A d => Sys2Proof.Machine.execLd_atIY_A d s
  | .ld_A_atIY d => Sys2Proof.Machine.execLd_A_atIY d s
  | .pop_IY => Sys2Proof.Machine.execPop_IY s
  | .push_IY => Sys2Proof.Machine.execPush_IY s
  | .ld_SP_IY => Sys2Proof.Machine.execLd_SP_IY s
  | .ld_atNN_BC nn => Sys2Proof.Machine.execLd_atNN_BC nn s
  | .ld_I_A => Sys2Proof.Machine.execLd_I_A s
  | .ld_BC_atNN nn => Sys2Proof.Machine.execLd_BC_atNN nn s
  | .ld_R_A => Sys2Proof.Machine.execLd_R_A s
  | .ld_atNN_DE nn => Sys2Proof.Machine.execLd_atNN_DE nn s
  | .ld_A_I => Sys2Proof.Machine.execLd_A_I s
  | .ld_DE_atNN nn => Sys2Proof.Machine.execLd_DE_atNN nn s
  | .ld_A_R => Sys2Proof.Machine.execLd_A_R s
  | .ld_atNN_HL_ED nn => Sys2Proof.Machine.execLd_atNN_HL_ED nn s
  | .ld_HL_atNN_ED nn => Sys2Proof.Machine.execLd_HL_atNN_ED nn s
  | .ld_atNN_SP nn => Sys2Proof.Machine.execLd_atNN_SP nn s
  | .ld_SP_atNN nn => Sys2Proof.Machine.execLd_SP_atNN nn s

end Sys2Proof.Machine
end

