-- ==== Sys2Proof/Machine/Step.lean ====
section
/-! DEFINITION. One step: the instruction at PC decoded, all of its bytes fetched, its meaning run
(40_step_dispatch.md R90, R101, R102; log entry 3). `halted` is not looked at (44_halt.md R182). -/

namespace Sys2Proof.Machine

/-- What the decoder reads at PC. -/
def State.decodeNext (s : State) : Decoded :=
  decode (s.streamByte 0) (s.streamByte 1) (s.streamByte 2) (s.streamByte 3)

/-- `Step` (R90). For a prefix slot alone one byte is fetched here and its handler fetches the next
(R95 to R97). -/
def step (s : State) : Host.Outcome State Fault Refusal :=
  match s.decodeNext with
  | .ok i => exec i (State.fetchN i.length s)
  | .unknownOpcode op => raiseUnknownOpcode none op (State.fetchN 1 s)

/-- `s` with the four bytes of an opcode-table word stored at PC, every bit from `nbits` up 0: the host's
load of an instruction (20_memory.md R54; log entry 13). -/
def State.withFetchWord (s : State) (nbits w : Nat) : State :=
  (((s.writeByte s.pc (tableByte nbits w 0)).writeByte (s.pc + 1#16) (tableByte nbits w 1)).writeByte
    (s.pc + 2#16) (tableByte nbits w 2)).writeByte (s.pc + 3#16) (tableByte nbits w 3)

end Sys2Proof.Machine
end

