-- ==== Sys2Proof/Machine/Handlers.lean ====
section
/-! DEFINITION. `Step` as 40_step_dispatch.md R90 writes it: one byte fetched, its handler of table `main`
called, every further byte fetched by the handler itself. The model's own step (Machine/Step.lean)
decodes the whole instruction first and then calls its meaning; that the two agree is a statement. -/

namespace Sys2Proof.Machine

/-- Table `main` of handlers (30_encoding.md R66). -/
def mainHandler (op : Byte) (s : State) : Result :=
  match op.toNat with
  | 0x01 => execLd_BC_nn s.fetch16.1 s.fetch16.2
  | 0x02 => execLd_atBC_A s
  | 0x06 => execLd_B_n s.fetch8.1 s.fetch8.2
  | 0x0A => execLd_A_atBC s
  | 0x0E => execLd_C_n s.fetch8.1 s.fetch8.2
  | 0x11 => execLd_DE_nn s.fetch16.1 s.fetch16.2
  | 0x12 => execLd_atDE_A s
  | 0x16 => execLd_D_n s.fetch8.1 s.fetch8.2
  | 0x1A => execLd_A_atDE s
  | 0x1E => execLd_E_n s.fetch8.1 s.fetch8.2
  | 0x21 => execLd_HL_nn s.fetch16.1 s.fetch16.2
  | 0x22 => execLd_atNN_HL s.fetch16.1 s.fetch16.2
  | 0x26 => execLd_H_n s.fetch8.1 s.fetch8.2
  | 0x2A => execLd_HL_atNN s.fetch16.1 s.fetch16.2
  | 0x2E => execLd_L_n s.fetch8.1 s.fetch8.2
  | 0x31 => execLd_SP_nn s.fetch16.1 s.fetch16.2
  | 0x32 => execLd_atNN_A s.fetch16.1 s.fetch16.2
  | 0x36 => execLd_atHL_n s.fetch8.1 s.fetch8.2
  | 0x3A => execLd_A_atNN s.fetch16.1 s.fetch16.2
  | 0x3E => execLd_A_n s.fetch8.1 s.fetch8.2
  | 0x40 => execLd_B_B s
  | 0x41 => execLd_B_C s
  | 0x42 => execLd_B_D s
  | 0x43 => execLd_B_E s
  | 0x44 => execLd_B_H s
  | 0x45 => execLd_B_L s
  | 0x46 => execLd_B_atHL s
  | 0x47 => execLd_B_A s
  | 0x48 => execLd_C_B s
  | 0x49 => execLd_C_C s
  | 0x4A => execLd_C_D s
  | 0x4B => execLd_C_E s
  | 0x4C => execLd_C_H s
  | 0x4D => execLd_C_L s
  | 0x4E => execLd_C_atHL s
  | 0x4F => execLd_C_A s
  | 0x50 => execLd_D_B s
  | 0x51 => execLd_D_C s
  | 0x52 => execLd_D_D s
  | 0x53 => execLd_D_E s
  | 0x54 => execLd_D_H s
  | 0x55 => execLd_D_L s
  | 0x56 => execLd_D_atHL s
  | 0x57 => execLd_D_A s
  | 0x58 => execLd_E_B s
  | 0x59 => execLd_E_C s
  | 0x5A => execLd_E_D s
  | 0x5B => execLd_E_E s
  | 0x5C => execLd_E_H s
  | 0x5D => execLd_E_L s
  | 0x5E => execLd_E_atHL s
  | 0x5F => execLd_E_A s
  | 0x60 => execLd_H_B s
  | 0x61 => execLd_H_C s
  | 0x62 => execLd_H_D s
  | 0x63 => execLd_H_E s
  | 0x64 => execLd_H_H s
  | 0x65 => execLd_H_L s
  | 0x66 => execLd_H_atHL s
  | 0x67 => execLd_H_A s
  | 0x68 => execLd_L_B s
  | 0x69 => execLd_L_C s
  | 0x6A => execLd_L_D s
  | 0x6B => execLd_L_E s
  | 0x6C => execLd_L_H s
  | 0x6D => execLd_L_L s
  | 0x6E => execLd_L_atHL s
  | 0x6F => execLd_L_A s
  | 0x70 => execLd_atHL_B s
  | 0x71 => execLd_atHL_C s
  | 0x72 => execLd_atHL_D s
  | 0x73 => execLd_atHL_E s
  | 0x74 => execLd_atHL_H s
  | 0x75 => execLd_atHL_L s
  | 0x76 => execHalt s
  | 0x77 => execLd_atHL_A s
  | 0x78 => execLd_A_B s
  | 0x79 => execLd_A_C s
  | 0x7A => execLd_A_D s
  | 0x7B => execLd_A_E s
  | 0x7C => execLd_A_H s
  | 0x7D => execLd_A_L s
  | 0x7E => execLd_A_atHL s
  | 0x7F => execLd_A_A s
  | 0xC1 => execPop_BC s
  | 0xC5 => execPush_BC s
  | 0xD1 => execPop_DE s
  | 0xD5 => execPush_DE s
  | 0xDD => execPrefix_DD s
  | 0xE1 => execPop_HL s
  | 0xE5 => execPush_HL s
  | 0xED => execPrefix_ED s
  | 0xF1 => execPop_AF s
  | 0xF5 => execPush_AF s
  | 0xF9 => execLd_SP_HL s
  | 0xFD => execPrefix_FD s
  | _ => raiseUnknownOpcode none op s

/-- `Step()` of R90, stages 1 to 4. -/
def stepByHandlers (s : State) : Result :=
  mainHandler s.fetch8.1 s.fetch8.2

end Sys2Proof.Machine
end

