-- ==== Sys2Proof/Machine/HostPort.lean ====
section
/-! DEFINITION. What the host may do between two steps (00_scope.md R6, 10_state.md R27, 20_memory.md R54,
70_reset_and_hazards.md R220), and the launch of the machine on a memory image (R221, 20_memory.md R55). -/

namespace Sys2Proof.Machine

/-- The ten 8-bit names of the interface (10_state.md R27). -/
inductive HostReg8
  | A | F | B | C | D | E | H | L | I | R
  deriving DecidableEq, Repr

/-- The eight 16-bit names of the interface (R27). -/
inductive HostReg16
  | PC | SP | BC | DE | HL | AF | IX | IY
  deriving DecidableEq, Repr

/-- The host reads an 8-bit register. -/
def State.hostRead8 (s : State) : HostReg8 → Byte
  | .A => s.a
  | .F => s.f
  | .B => s.b
  | .C => s.c
  | .D => s.d
  | .E => s.e
  | .H => s.h
  | .L => s.l
  | .I => s.i
  | .R => s.r

/-- The host reads a 16-bit register or a pair. -/
def State.hostRead16 (s : State) : HostReg16 → Word
  | .PC => s.pc
  | .SP => s.sp
  | .BC => s.bc
  | .DE => s.de
  | .HL => s.hl
  | .AF => s.af
  | .IX => s.ix
  | .IY => s.iy

/-- The host writes an 8-bit register: the value is stored, nothing else happens (R27). -/
def State.hostWrite8 (s : State) (r : HostReg8) (v : Byte) : State :=
  match r with
  | .A => { s with a := v }
  | .F => { s with f := v }
  | .B => { s with b := v }
  | .C => { s with c := v }
  | .D => { s with d := v }
  | .E => { s with e := v }
  | .H => { s with h := v }
  | .L => { s with l := v }
  | .I => s.setI v
  | .R => s.setR v

/-- The host writes a 16-bit register or a pair, a pair by R13. -/
def State.hostWrite16 (s : State) (r : HostReg16) (v : Word) : State :=
  match r with
  | .PC => s.setPC v
  | .SP => s.setSP v
  | .BC => s.setBC v
  | .DE => s.setDE v
  | .HL => s.setHL v
  | .AF => s.setAF v
  | .IX => { s with ix := v }
  | .IY => { s with iy := v }

/-- `Reset()` (70_reset_and_hazards.md R220): the registers and `halted` as in `State.reset`; the memory,
the observer and the trace emitted so far are not changed (R223). -/
def State.hostReset (s : State) : State := { State.reset with mem := s.mem, trace := s.trace }

/-- The observer is attached or detached (00_scope.md R6); the bytes already received stay received. -/
def State.hostAttach (s : State) (on : Bool) : State :=
  { s with trace := { s.trace with attached := on } }

/-- The state after an outcome: after a fault it is the one delivered with it, from which the host may go
on (60_exceptions.md R193, R196). A refusal, which no step answers, leaves `s`. -/
def stateAfter (s : State) : Result → State
  | .next t => t
  | .fault (.unknownOpcode _ _ t) => t
  | .refused _ => s

/-- The actions of the host that change the engine or its memory. `halted` and the shadow bank are
written by none of them but `step` and `reset` (R20, R24). -/
inductive HostAction where
  | step
  | reset
  | write8 (r : HostReg8) (v : Byte)
  | write16 (r : HostReg16) (v : Word)
  | setByte (a : Word) (v : Byte)
  | setWord (a : Word) (v : Word)
  | attach (on : Bool)
  deriving DecidableEq, Repr

/-- One action of the host. -/
def hostAct : HostAction → State → State
  | .step, s => stateAfter s (step s)
  | .reset, s => s.hostReset
  | .write8 r v, s => s.hostWrite8 r v
  | .write16 r v, s => s.hostWrite16 r v
  | .setByte a v, s => s.writeByte a v
  | .setWord a v, s => s.writeWord a v
  | .attach on, s => s.hostAttach on

/-- A sequence of host actions, first to last. -/
def hostRun : List HostAction → State → State
  | [], s => s
  | x :: xs, s => hostRun xs (hostAct x s)

/-- The machine at launch (70_reset_and_hazards.md R221) with the open parameters `INIT_MEM` and
`TRACE_ATTACHED` (00_scope.md R5) given. -/
def State.powerOn (initMem : Word → Byte) (traceAttached : Bool) : State :=
  { State.reset with mem := Memory.ofImage initMem, trace := ⟨[], traceAttached, []⟩ }

end Sys2Proof.Machine
end

