-- ==== Sys2Proof/Safety.lean ====
section
/-! DEFINITION. Runs, how they end (44_halt.md R183), and the invariant of the machine. -/

namespace Sys2Proof.Machine

/-- How a run has ended, or that it has not ended within the steps given. -/
inductive RunEnd where
  | halted (s : State)
  | faulted (pfx : Option Byte) (opcode : Byte) (after : State)
  | refused (r : Refusal)
  | unfinished (s : State)
  deriving DecidableEq, Repr

/-- The run of R183, at most `k` steps: step while `halted` is 0 and nothing has faulted. A run launched
with `halted` = 1 ends at once, with no step. -/
def runUntilHalt : Nat → State → RunEnd
  | 0, s => if s.halted then .halted s else .unfinished s
  | k + 1, s =>
    if s.halted then .halted s
    else
      match step s with
      | .next t => runUntilHalt k t
      | .fault (.unknownOpcode pfx op t) => .faulted pfx op t
      | .refused r => .refused r

/-- A run has gone wrong when it ended in the fault (60_exceptions.md R194) or in a refusal. -/
def RunEnd.safe : RunEnd → Bool
  | .halted _ => true
  | .unfinished _ => true
  | .faulted _ _ _ => false
  | .refused _ => false

/-- The invariant: the memory is in canonical form, and every shadow register holds 0x00 (10_state.md
R24). -/
def State.Inv (s : State) : Prop := Memory.wf s.mem = true ∧ s.shadow = ShadowBank.zero

end Sys2Proof.Machine
end

