-- ==== Sys2Proof/Certificates/Slice0/Obligations.lean ====
section
/-! DEFINITION. The statements for the provers. Each docstring names the rules of spec/ it formalises.
Where a statement names opcode bytes, those are the Zilog numbers that the spec adopts under
92_eei_decisions.md D1 and D3 (log entry 5). -/

open Sys2Proof Sys2Proof.Machine

namespace Sys2Proof.Claims

/-! ### What the statements are written with -/

/-- The bytes of `i` stand in memory at PC. -/
def FetchesAt (s : State) (i : Instr) : Prop :=
  ∀ k, k < i.length → s.readByte (s.pc + BitVec.ofNat 16 k) = (encode i).getD k 0

/-- `i` has the effect `eff`: its meaning answers it in every state, and so does a step from every state
in which the bytes of `i` stand at PC, after they have been fetched. -/
def HasEffect (i : Instr) (eff : State → State) : Prop :=
  (∀ s, exec i s = .next (eff s)) ∧
    ∀ s, FetchesAt s i → step s = .next (eff (State.fetchN i.length s))

/-- `f` applied to the state of an outcome. -/
def mapState (f : State → State) : Result → Result
  | .next t => .next (f t)
  | .fault (.unknownOpcode p op t) => .fault (.unknownOpcode p op (f t))
  | .refused r => .refused r

/-- The register operand `r` under the host's name. -/
def hostName : Reg8 → HostReg8
  | .B => .B
  | .C => .C
  | .D => .D
  | .E => .E
  | .H => .H
  | .L => .L
  | .A => .A

/-- The 8-bit registers that a write of the operand `dd` writes. -/
def pairHalves : Pair → List HostReg8
  | .BC => [.B, .C]
  | .DE => [.D, .E]
  | .HL => [.H, .L]
  | .SP => []

/-- The 16-bit registers that a write of the operand `dd` writes. -/
def pairWide : Pair → List HostReg16
  | .SP => [.SP]
  | _ => []

/-- The high and the low half of a pair, and the pair, under the host's names (10_state.md R12). -/
def highHalf : StackPair → HostReg8
  | .BC => .B
  | .DE => .D
  | .HL => .H
  | .AF => .A

def lowHalf : StackPair → HostReg8
  | .BC => .C
  | .DE => .E
  | .HL => .L
  | .AF => .F

def wideName : StackPair → HostReg16
  | .BC => .BC
  | .DE => .DE
  | .HL => .HL
  | .AF => .AF

/-- The index register under the host's name. -/
def indexName : Index → HostReg16
  | .IX => .IX
  | .IY => .IY

/-- Nothing but the 8-bit registers `ws8`, the registers `ws16` among SP, PC, IX, IY, and the bytes of
memory at the addresses `as` differs between `s` and `t`. -/
def Frame (ws8 : List HostReg8) (ws16 : List HostReg16) (as : List Word) (s t : State) : Prop :=
  (∀ x, x ∉ ws8 → t.hostRead8 x = s.hostRead8 x) ∧
  (∀ x ∈ [HostReg16.SP, .PC, .IX, .IY], x ∉ ws16 → t.hostRead16 x = s.hostRead16 x) ∧
  t.halted = s.halted ∧ t.shadow = s.shadow ∧ t.trace = s.trace ∧
  ∀ a, a ∉ as → t.readByte a = s.readByte a

/-- The six pushes and the six pops (43_stack.md R172 to R177) by the register pushed or popped, a pair or an
index register, and the value of that register. -/
def pushOf : StackPair ⊕ Index → Instr
  | .inl p => .push p
  | .inr x => .pushIndex x

def popOf : StackPair ⊕ Index → Instr
  | .inl p => .pop p
  | .inr x => .popIndex x

def stackValue (s : State) : StackPair ⊕ Index → Word
  | .inl p => s.stackPair p
  | .inr x => s.index x

/-- The two bytes of a word stored at `a`, little-endian (20_memory.md R42). -/
def wordCells (a v : Word) : List (Word × Byte) := [(a, lowByte v), (a + 1#16, highByte v)]

/-- A step that runs `i` stores the bytes `cells s`, and the next step, wherever it reads the address of one
of them as instruction stream, reads that byte. -/
def StoreIsFetched (i : Instr) (cells : State → List (Word × Byte)) : Prop :=
  ∀ s t, Memory.wf s.mem = true → FetchesAt s i → step s = .next t →
    ∀ c ∈ cells s, ∀ k, t.pc + BitVec.ofNat 16 k = c.1 → t.streamByte k = c.2

/-- A slot that does not hold the fault handler. -/
def populated : Slot → Bool
  | .unpopulated => false
  | _ => true

/-- How many slots of a table are populated. -/
def populatedCount (table : Byte → Slot) : Nat :=
  ((List.range 256).filter fun n => populated (table (BitVec.ofNat 8 n))).length

/-- The instruction of table `fd` in the slot of an instruction of table `dd`: IY in place of IX. -/
def withIY : Instr → Instr
  | .ld_IX_nn nn => .ld_IY_nn nn
  | .ld_atNN_IX nn => .ld_atNN_IY nn
  | .ld_IX_atNN nn => .ld_IY_atNN nn
  | .ld_atIX_n d n => .ld_atIY_n d n
  | .ld_B_atIX d => .ld_B_atIY d
  | .ld_C_atIX d => .ld_C_atIY d
  | .ld_D_atIX d => .ld_D_atIY d
  | .ld_E_atIX d => .ld_E_atIY d
  | .ld_H_atIX d => .ld_H_atIY d
  | .ld_L_atIX d => .ld_L_atIY d
  | .ld_A_atIX d => .ld_A_atIY d
  | .ld_atIX_B d => .ld_atIY_B d
  | .ld_atIX_C d => .ld_atIY_C d
  | .ld_atIX_D d => .ld_atIY_D d
  | .ld_atIX_E d => .ld_atIY_E d
  | .ld_atIX_H d => .ld_atIY_H d
  | .ld_atIX_L d => .ld_atIY_L d
  | .ld_atIX_A d => .ld_atIY_A d
  | .pop_IX => .pop_IY
  | .push_IX => .push_IY
  | .ld_SP_IX => .ld_SP_IY
  | i => i

/-- The instructions that load SP (10_state.md R15). -/
def loadsSP : Instr → Bool
  | .ld_SP_nn _ => true
  | .ld_SP_atNN _ => true
  | .ld_SP_HL => true
  | .ld_SP_IX => true
  | .ld_SP_IY => true
  | _ => false

def isPush : Instr → Bool
  | .push_BC => true
  | .push_DE => true
  | .push_HL => true
  | .push_AF => true
  | .push_IX => true
  | .push_IY => true
  | _ => false

def isPop : Instr → Bool
  | .pop_BC => true
  | .pop_DE => true
  | .pop_HL => true
  | .pop_AF => true
  | .pop_IX => true
  | .pop_IY => true
  | _ => false

/-- A trace output to put in place of another, where the trace is not compared. -/
def noTrace : TracePort := ⟨[], false, []⟩

end Sys2Proof.Claims

open Sys2Proof.Claims

/-! ### The 8-bit loads (41_ld8.md) -/

/-- R110, all 49 forms: the destination receives the source's value; the self-copy changes nothing. -/
def Obligations.LdRegRegCopiesSource : Prop :=
  ∀ d r : Reg8, encode (.ldRegReg d r) = [0x40 + 8 * d.code + r.code] ∧
    HasEffect (.ldRegReg d r) (fun s => s.setReg8 d (s.reg8 r)) ∧
    ∀ s : State, s.setReg8 d (s.reg8 d) = s

/-- R111, all 7 forms: the destination receives `n`. -/
def Obligations.LdRegImmLoadsImmediate : Prop :=
  ∀ (d : Reg8) (n : Byte), encode (.ldRegImm d n) = [0x06 + 8 * d.code, n] ∧
    HasEffect (.ldRegImm d n) (fun s => s.setReg8 d n)

/-- R112, all 7 forms, H and L as destinations included: the byte at the old HL. -/
def Obligations.LdRegAtHLLoadsByte : Prop :=
  ∀ d : Reg8, encode (.ldRegAtHL d) = [0x46 + 8 * d.code] ∧
    HasEffect (.ldRegAtHL d) (fun s => s.setReg8 d (s.readByte s.hl))

/-- R113 and R114, all 14 forms: the byte at the index register plus the sign-extended displacement; H
and L mean H and L. -/
def Obligations.LdRegAtIndexLoadsByte : Prop :=
  ∀ (x : Index) (d : Reg8) (disp : Byte),
    encode (.ldRegAtIndex x d disp) = [x.prefixByte, 0x46 + 8 * d.code, disp] ∧
    HasEffect (.ldRegAtIndex x d disp)
      (fun s => s.setReg8 d (s.readByte (s.index x + disp.signExtend 16)))

/-- R115 and R118: the source register's value, or `n`, is stored at HL. -/
def Obligations.LdAtHLStoresByte : Prop :=
  (∀ r : Reg8, encode (.ldAtHLReg r) = [0x70 + r.code] ∧
    HasEffect (.ldAtHLReg r) (fun s => s.writeByte s.hl (s.reg8 r))) ∧
  ∀ n : Byte, encode (.ld_atHL_n n) = [0x36, n] ∧
    HasEffect (.ld_atHL_n n) (fun s => s.writeByte s.hl n)

/-- R116, R117, R119, R120: the source register's value, or `n`, is stored at the index register plus the
sign-extended displacement; the displacement byte comes before the immediate
(92_eei_decisions.md D18). -/
def Obligations.LdAtIndexStoresByte : Prop :=
  (∀ (x : Index) (r : Reg8) (disp : Byte),
    encode (.ldAtIndexReg x r disp) = [x.prefixByte, 0x70 + r.code, disp] ∧
    HasEffect (.ldAtIndexReg x r disp)
      (fun s => s.writeByte (s.index x + disp.signExtend 16) (s.reg8 r))) ∧
  ∀ (x : Index) (disp n : Byte),
    encode (.ldAtIndexImm x disp n) = [x.prefixByte, 0x36, disp, n] ∧
    HasEffect (.ldAtIndexImm x disp n)
      (fun s => s.writeByte (s.index x + disp.signExtend 16) n)

/-- R121 to R126: A loaded from and stored to the byte at BC, at DE and at `nn`. -/
def Obligations.AccumulatorMemoryForms : Prop :=
  HasEffect .ld_A_atBC (fun s => s.setReg8 .A (s.readByte s.bc)) ∧
  HasEffect .ld_A_atDE (fun s => s.setReg8 .A (s.readByte s.de)) ∧
  (∀ nn, HasEffect (.ld_A_atNN nn) (fun s => s.setReg8 .A (s.readByte nn))) ∧
  HasEffect .ld_atBC_A (fun s => s.writeByte s.bc s.a) ∧
  HasEffect .ld_atDE_A (fun s => s.writeByte s.de s.a) ∧
  ∀ nn, HasEffect (.ld_atNN_A nn) (fun s => s.writeByte nn s.a)

/-- R127 to R130: A exchanged with I and R by plain copies; F is not touched. That the two fetches do not
advance R rests on 92_eei_decisions.md D6 (log entry 7, DEDUCED). -/
def Obligations.AccumulatorImpliedForms : Prop :=
  HasEffect .ld_A_I (fun s => { s with a := s.i }) ∧
  HasEffect .ld_A_R (fun s => { s with a := s.r }) ∧
  HasEffect .ld_I_A (fun s => { s with i := s.a }) ∧
  HasEffect .ld_R_A (fun s => { s with r := s.a })

/-! ### The 16-bit loads (42_ld16.md) -/

/-- R140, all 4 forms. -/
def Obligations.LdPairImmLoadsImmediate : Prop :=
  ∀ (p : Pair) (nn : Word), encode (.ldPairImm p nn) = [0x01 + 16 * p.code, lowByte nn, highByte nn] ∧
    HasEffect (.ldPairImm p nn) (fun s => s.setPair p nn)

/-- R141 and R142, whose encodings are the document's own: IX or IY receives `nn`, four bytes; the other
index register and HL are unchanged. -/
def Obligations.LdIndexImmLoadsImmediate : Prop :=
  ∀ nn : Word,
    encode (.ld_IX_nn nn) = [0xDD, 0x21, lowByte nn, highByte nn] ∧
    encode (.ld_IY_nn nn) = [0xFD, 0x21, lowByte nn, highByte nn] ∧
    HasEffect (.ld_IX_nn nn) (fun s => { s with ix := nn }) ∧
    HasEffect (.ld_IY_nn nn) (fun s => { s with iy := nn })

/-- R143 to R146: the little-endian word at `nn`, in both encodings of `LD HL,(nn)`, 2A and ED 6B
(30_encoding.md R74). -/
def Obligations.LdPairAtNNLoadsWord : Prop :=
  ∀ nn : Word,
    encode (.ld_HL_atNN nn) = [0x2A, lowByte nn, highByte nn] ∧
    HasEffect (.ld_HL_atNN nn) (fun s => s.setHL (s.readWord nn)) ∧
    (∀ p : Pair, encode (.ldPairAtNN p nn) = [0xED, 0x4B + 16 * p.code, lowByte nn, highByte nn] ∧
      HasEffect (.ldPairAtNN p nn) (fun s => s.setPair p (s.readWord nn))) ∧
    ∀ x : Index, encode (.ldIndexAtNN x nn) = [x.prefixByte, 0x2A, lowByte nn, highByte nn] ∧
      HasEffect (.ldIndexAtNN x nn) (fun s => s.setIndex x (s.readWord nn))

/-- R147 to R150: the little-endian word stored at `nn`, in both encodings of `LD (nn),HL`, 22 and ED 63
(30_encoding.md R74). -/
def Obligations.LdAtNNPairStoresWord : Prop :=
  ∀ nn : Word,
    encode (.ld_atNN_HL nn) = [0x22, lowByte nn, highByte nn] ∧
    HasEffect (.ld_atNN_HL nn) (fun s => s.writeWord nn s.hl) ∧
    (∀ p : Pair, encode (.ldAtNNPair p nn) = [0xED, 0x43 + 16 * p.code, lowByte nn, highByte nn] ∧
      HasEffect (.ldAtNNPair p nn) (fun s => s.writeWord nn (s.pair p))) ∧
    ∀ x : Index, encode (.ldAtNNIndex x nn) = [x.prefixByte, 0x22, lowByte nn, highByte nn] ∧
      HasEffect (.ldAtNNIndex x nn) (fun s => s.writeWord nn (s.index x))

/-- R151 to R153: SP receives HL, IX or IY. -/
def Obligations.LdSPCopiesPair : Prop :=
  HasEffect .ld_SP_HL (fun s => { s with sp := s.hl }) ∧
  ∀ x : Index, HasEffect (.ldSPIndex x) (fun s => { s with sp := s.index x })

/-! ### The stack (43_stack.md) -/

/-- R172 to R174: `Push16` of the source. -/
def Obligations.PushInstructionsPush : Prop :=
  (∀ p : StackPair, encode (.push p) = [0xC5 + 16 * p.code] ∧
    HasEffect (.push p) (fun s => s.push16 (s.stackPair p))) ∧
  ∀ x : Index, encode (.pushIndex x) = [x.prefixByte, 0xE5] ∧
    HasEffect (.pushIndex x) (fun s => s.push16 (s.index x))

/-- R175 to R177: `Pop16` into the destination. -/
def Obligations.PopInstructionsPop : Prop :=
  (∀ p : StackPair, encode (.pop p) = [0xC1 + 16 * p.code] ∧
    HasEffect (.pop p) (fun s => s.pop16.2.setStackPair p s.pop16.1)) ∧
  ∀ x : Index, encode (.popIndex x) = [x.prefixByte, 0xE1] ∧
    HasEffect (.popIndex x) (fun s => s.pop16.2.setIndex x s.pop16.1)

/-- R170: where the two bytes of a push go, what SP becomes, and that no other byte changes. -/
def Obligations.Push16Layout : Prop :=
  ∀ (s : State) (v : Word), Memory.wf s.mem = true →
    (s.push16 v).sp = s.sp - 2#16 ∧
    (s.push16 v).readByte (s.sp - 1#16) = highByte v ∧
    (s.push16 v).readByte (s.sp - 2#16) = lowByte v ∧
    (s.push16 v).readWord (s.push16 v).sp = v ∧
    (∀ a, a ≠ s.sp - 1#16 → a ≠ s.sp - 2#16 → (s.push16 v).readByte a = s.readByte a) ∧
    Frame [] [.SP] [s.sp - 1#16, s.sp - 2#16] s (s.push16 v)

/-- R171: which two bytes a pop reads, what SP becomes, and that nothing else changes. -/
def Obligations.Pop16Layout : Prop :=
  ∀ s : State,
    lowByte s.pop16.1 = s.readByte s.sp ∧
    highByte s.pop16.1 = s.readByte (s.sp + 1#16) ∧
    s.pop16.2 = { s with sp := s.sp + 2#16 }

/-- R178: a pop after a push gives the value back and SP as it was; any push and then, where its bytes still
stand at PC, any pop copies the source of the one to the destination of the other. -/
def Obligations.PushThenPopRoundTrip : Prop :=
  (∀ (s : State) (v : Word), Memory.wf s.mem = true →
    (s.push16 v).pop16.1 = v ∧ (s.push16 v).pop16.2.sp = s.sp) ∧
  ∀ (s t u : State) (p q : StackPair ⊕ Index), Memory.wf s.mem = true →
    FetchesAt s (pushOf p) → step s = .next t → FetchesAt t (popOf q) → step t = .next u →
    stackValue u q = stackValue s p ∧ u.sp = s.sp

/-! ### HALT (44_halt.md) -/

/-- R180: `halted` becomes 1, nothing else changes but PC and the trace; executed when `halted` is already 1
its meaning changes nothing. That PC is one past the 0x76 byte rests on 90_conflicts.md C2 (log entry 8,
DEDUCED). -/
def Obligations.HaltSetsHaltedOnly : Prop :=
  encode .halt = [0x76] ∧
  HasEffect .halt (fun s => { s with halted := true }) ∧
  (∀ s, FetchesAt s .halt →
    step s = .next { s with halted := true, pc := s.pc + 1#16, trace := s.trace.emit 0x76 }) ∧
  (∀ s, s.halted = true → exec .halt s = .next s) ∧
  ∀ s t, exec .halt s = .next t → t.halted = true ∧ Frame [] [] [] s { t with halted := s.halted }

/-- R181, every row of its table: only HALT sets `halted`, and only Reset clears it. That Reset keeps memory
and trace rests on R223 and 92_eei_decisions.md D13 (log entry 15, DEDUCED), that the host's writes do not
reach `halted` on D16 (log entry 16, DEDUCED). -/
def Obligations.HaltedTransitions : Prop :=
  (∀ s t, step s = .next t → s.decodeNext = .ok .halt → t.halted = true) ∧
  (∀ s t, step s = .next t → s.decodeNext ≠ .ok .halt → t.halted = s.halted) ∧
  (∀ s p op t, step s = .fault (.unknownOpcode p op t) → t.halted = s.halted) ∧
  (∀ s, hostAct .reset s = { State.reset with mem := s.mem, trace := s.trace } ∧
    (hostAct .reset s).halted = false) ∧
  ∀ s act, act ≠ .step → act ≠ .reset → (hostAct act s).halted = s.halted

/-- R182: a step in the Halted state is the step of the Running state, except that `halted` stays 1. -/
def Obligations.StepDoesNotTestHalted : Prop :=
  ∀ s : State, step { s with halted := true } =
    mapState (fun t => { t with halted := true }) (step { s with halted := false })

/-! ### Prefix slots, faults and outcomes -/

/-- R95 to R97: a prefix byte at PC runs the prefix handler after one fetch; the handler fetches `b1` and
runs the instruction of slot `b1` of its own table, which completes, or raises
`UnknownOpcode(prefix, b1)`; a prefix byte is in no prefix table. -/
def Obligations.PrefixHandlersSelectTheirTable : Prop :=
  (∀ (p : Prefix) (s : State), s.streamByte 0 = p.byte → step s = exec p.instr (State.fetchN 1 s)) ∧
  (∀ (p : Prefix) (s : State) (i : Instr),
    (p.slot (s.streamByte 0)).fill (s.streamByte 1) (s.streamByte 2) = some i →
    exec p.instr s = exec i (State.fetchN (i.length - 1) s) ∧ ∃ t, exec p.instr s = .next t) ∧
  (∀ (p : Prefix) (s : State),
    (p.slot (s.streamByte 0)).fill (s.streamByte 1) (s.streamByte 2) = none →
    exec p.instr s = .fault (.unknownOpcode (some p.byte) (s.streamByte 0) (State.fetchN 1 s))) ∧
  ∀ p q : Prefix, p.slot q.byte = .unpopulated

/-- R192: the exception is raised exactly when the first byte's slot of `main`, or the second byte's slot
of the table a prefix byte selects, is unpopulated, with that byte and that prefix, after 1 or 2
fetches. Which slots are unpopulated rests on 92_eei_decisions.md D4 and D5 (log entry 9, DEDUCED). -/
def Obligations.FaultExactlyOnUnpopulatedSlot : Prop :=
  ∀ (s : State) (pfx : Option Byte) (op : Byte) (t : State),
    step s = .fault (.unknownOpcode pfx op t) ↔
      (pfx = none ∧ op = s.streamByte 0 ∧ mainSlot op = .unpopulated ∧ t = State.fetchN 1 s) ∨
      ∃ p : Prefix, s.streamByte 0 = p.byte ∧ pfx = some p.byte ∧ op = s.streamByte 1 ∧
        p.slot op = .unpopulated ∧ t = State.fetchN 2 s

/-- R193: the state delivered with the fault differs from the one before the step in PC, by 1 without a
prefix and by 2 with one, and in the trace, by the bytes consumed. -/
def Obligations.FaultLeavesAllButPcAndTrace : Prop :=
  ∀ (s : State) (op : Byte) (t : State),
    (step s = .fault (.unknownOpcode none op t) →
      t = { s with pc := s.pc + 1#16, trace := s.trace.emit op }) ∧
    ∀ b, step s = .fault (.unknownOpcode (some b) op t) →
      t = { s with pc := s.pc + 2#16, trace := (s.trace.emit b).emit op }

/-- R103: every instruction completes in every state; a step completes or raises `UnknownOpcode`, and is
never refused. -/
def Obligations.EveryInstructionCompletes : Prop :=
  (∀ (i : Instr) (s : State), i.wellFormed = true → ∃ t, exec i s = .next t) ∧
  ∀ s, (∃ t, step s = .next t) ∨ ∃ p op t, step s = .fault (.unknownOpcode p op t)

/-- R71 and R184: a prefix after a prefix, and 0x76 after a prefix, raise the exception and do not set
`halted`. -/
def Obligations.PrefixChainsAndPrefixedHaltFault : Prop :=
  ∀ (p : Prefix) (s : State) (op : Byte), s.streamByte 0 = p.byte → s.streamByte 1 = op →
    (op = 0x76 ∨ ∃ q : Prefix, op = q.byte) →
    step s = .fault (.unknownOpcode (some p.byte) op (State.fetchN 2 s)) ∧
      (State.fetchN 2 s).halted = s.halted

/-! ### Step, fetch and trace (40_step_dispatch.md) -/

/-- A step runs the decoded instruction after fetching its bytes: PC has moved by its length, the trace
has received them, and nothing else has changed when its meaning starts. -/
def Obligations.StepRunsDecodedInstruction : Prop :=
  ∀ (s : State) (i : Instr), s.decodeNext = .ok i →
    step s = exec i (State.fetchN i.length s) ∧
    (State.fetchN i.length s).trace.emitted = s.trace.emitted ++ (List.range i.length).map s.streamByte ∧
    State.fetchN i.length s =
      { s with pc := s.pc + BitVec.ofNat 16 i.length, trace := (State.fetchN i.length s).trace }

/-- The bytes of a whole instruction at PC, wherever PC is, decode to it. -/
def Obligations.BytesAtPcDecodeToTheirInstruction : Prop :=
  ∀ (s : State) (i : Instr), i.wellFormed = true → FetchesAt s i →
    s.decodeNext = .ok i ∧ step s = exec i (State.fetchN i.length s)

/-- R106: a completed instruction has moved PC by its length and emitted exactly its bytes, which the
observer received if one was attached. -/
def Obligations.StepEmitsExactlyItsBytes : Prop :=
  ∀ (s t : State) (i : Instr), s.decodeNext = .ok i → step s = .next t →
    t.pc = s.pc + BitVec.ofNat 16 i.length ∧
    t.trace.emitted = s.trace.emitted ++ encode i ∧
    t.trace.attached = s.trace.attached ∧
    t.trace.delivered =
      (if s.trace.attached then s.trace.delivered ++ encode i else s.trace.delivered) ∧
    FetchesAt s i

/-- R90 to R92: deciding on the whole instruction first and running its meaning is the `Step` that fetches
one byte, calls its handler, and lets the handlers fetch the rest. -/
def Obligations.StepIsByteByByteStep : Prop :=
  ∀ s, step s = stepByHandlers s

/-- R107: no instruction writes PC or emits a trace byte by itself; PC moves by fetching alone. -/
def Obligations.MeaningsLeavePcAndTrace : Prop :=
  ∀ (i : Instr) (s t : State), i.wellFormed = true → exec i s = .next t →
    t.pc = s.pc ∧ t.trace = s.trace

/-- R99: the address of an indexed operand is the index register plus the signed displacement modulo
65536. -/
def Obligations.IndexedAddressIsSignedSum : Prop :=
  ∀ (s : State) (x : Index) (d : Byte),
    ((s.indexed x d).toNat : Int) = ((s.index x).toNat + d.toInt) % 65536 ∧
    (d.toNat ≤ 0x7F → (s.indexed x d).toNat = ((s.index x).toNat + d.toNat) % 65536) ∧
    (0x80 ≤ d.toNat → s.indexed x d = s.index x - BitVec.ofNat 16 (256 - d.toNat))

/-! ### Frames: what an instruction leaves unchanged -/

/-- R131, the instructions that write a register: only the destination changes. -/
def Obligations.Ld8RegisterFormsFrame : Prop :=
  ∀ s t : State,
    (∀ d r, exec (.ldRegReg d r) s = .next t → Frame [hostName d] [] [] s t) ∧
    (∀ d n, exec (.ldRegImm d n) s = .next t → Frame [hostName d] [] [] s t) ∧
    (∀ d, exec (.ldRegAtHL d) s = .next t → Frame [hostName d] [] [] s t) ∧
    (∀ x d disp, exec (.ldRegAtIndex x d disp) s = .next t → Frame [hostName d] [] [] s t) ∧
    (∀ nn i, i ∈ [Instr.ld_A_atBC, .ld_A_atDE, .ld_A_atNN nn, .ld_A_I, .ld_A_R] →
      exec i s = .next t → Frame [.A] [] [] s t) ∧
    (exec .ld_I_A s = .next t → Frame [.I] [] [] s t) ∧
    (exec .ld_R_A s = .next t → Frame [.R] [] [] s t)

/-- R131, the instructions that store: only the byte at the effective address changes. -/
def Obligations.Ld8StoreFormsFrame : Prop :=
  ∀ s t : State, Memory.wf s.mem = true →
    (∀ r, exec (.ldAtHLReg r) s = .next t → Frame [] [] [s.hl] s t) ∧
    (∀ n, exec (.ld_atHL_n n) s = .next t → Frame [] [] [s.hl] s t) ∧
    (∀ x r d, exec (.ldAtIndexReg x r d) s = .next t → Frame [] [] [s.indexed x d] s t) ∧
    (∀ x d n, exec (.ldAtIndexImm x d n) s = .next t → Frame [] [] [s.indexed x d] s t) ∧
    (exec .ld_atBC_A s = .next t → Frame [] [] [s.bc] s t) ∧
    (exec .ld_atDE_A s = .next t → Frame [] [] [s.de] s t) ∧
    ∀ nn, exec (.ld_atNN_A nn) s = .next t → Frame [] [] [nn] s t

/-- R154, the instructions that write a 16-bit register: only it changes. -/
def Obligations.Ld16RegisterFormsFrame : Prop :=
  ∀ s t : State,
    (∀ p nn, exec (.ldPairImm p nn) s = .next t → Frame (pairHalves p) (pairWide p) [] s t) ∧
    (∀ p nn, exec (.ldPairAtNN p nn) s = .next t → Frame (pairHalves p) (pairWide p) [] s t) ∧
    (∀ nn, exec (.ld_HL_atNN nn) s = .next t → Frame [.H, .L] [] [] s t) ∧
    (∀ x nn, exec (.ldIndexImm x nn) s = .next t → Frame [] [indexName x] [] s t) ∧
    (∀ x nn, exec (.ldIndexAtNN x nn) s = .next t → Frame [] [indexName x] [] s t) ∧
    (exec .ld_SP_HL s = .next t → Frame [] [.SP] [] s t) ∧
    ∀ x, exec (.ldSPIndex x) s = .next t → Frame [] [.SP] [] s t

/-- R154, the instructions that store a word: only the bytes at `nn` and `(nn + 1) mod 65536` change. -/
def Obligations.Ld16StoreFormsFrame : Prop :=
  ∀ (s t : State) (nn : Word), Memory.wf s.mem = true →
    (exec (.ld_atNN_HL nn) s = .next t → Frame [] [] [nn, nn + 1#16] s t) ∧
    (∀ p, exec (.ldAtNNPair p nn) s = .next t → Frame [] [] [nn, nn + 1#16] s t) ∧
    ∀ x, exec (.ldAtNNIndex x nn) s = .next t → Frame [] [] [nn, nn + 1#16] s t

/-- R172 to R177: a push changes SP and the two bytes below the old SP; a pop changes SP and its
destination, of `POP AF` the whole of F too, and no memory. -/
def Obligations.StackInstructionsFrame : Prop :=
  (∀ s t : State, Memory.wf s.mem = true →
    (∀ p, exec (.push p) s = .next t → Frame [] [.SP] [s.sp - 1#16, s.sp - 2#16] s t) ∧
    ∀ x, exec (.pushIndex x) s = .next t → Frame [] [.SP] [s.sp - 1#16, s.sp - 2#16] s t) ∧
  ∀ s t : State,
    (∀ p, exec (.pop p) s = .next t → Frame [highHalf p, lowHalf p] [.SP] [] s t) ∧
    ∀ x, exec (.popIndex x) s = .next t → Frame [] [.SP, indexName x] [] s t

/-! ### Whole-machine rules -/

/-- R17: F changes in no step but that of `POP AF`, which loads all eight bits from the byte at SP;
`PUSH AF` stores all eight; the host reads back what it wrote. -/
def Obligations.FlagsChangeOnlyByPopAF : Prop :=
  (∀ s t, step s = .next t → t.f ≠ s.f → s.decodeNext = .ok .pop_AF) ∧
  (∀ s t, step s = .next t → s.decodeNext = .ok .pop_AF → t.f = s.readByte s.sp) ∧
  (∀ s t, Memory.wf s.mem = true → exec .push_AF s = .next t → t.readByte (s.sp - 2#16) = s.f ∧ t.f = s.f) ∧
  ∀ (s : State) (v : Byte), (s.hostWrite8 .F v).hostRead8 .F = v

/-- R15: SP changes only by a load of SP, by PUSH (minus 2) and by POP (plus 2). -/
def Obligations.SPChangesOnlyByItsInstructions : Prop :=
  ∀ (s t : State) (i : Instr), s.decodeNext = .ok i → step s = .next t →
    (isPush i = true → t.sp = s.sp - 2#16) ∧ (isPop i = true → t.sp = s.sp + 2#16) ∧
    (isPush i = false → isPop i = false → loadsSP i = false → t.sp = s.sp)

/-- R19 and 92_eei_decisions.md D6 (log entry 7): I and R are plain storage; only `LD I,A` and `LD R,A`
change them, and fetching does not advance R. -/
def Obligations.IAndRArePlainStorage : Prop :=
  ∀ s t, step s = .next t →
    (t.i ≠ s.i → s.decodeNext = .ok .ld_I_A ∧ t.i = s.a) ∧
    (t.r ≠ s.r → s.decodeNext = .ok .ld_R_A ∧ t.r = s.a)

/-- R14: no step changes both IX and IY, and each is changed by its own three instructions alone. -/
def Obligations.IXAndIYAreIndependent : Prop :=
  ∀ s t, step s = .next t →
    (t.ix ≠ s.ix → t.iy = s.iy ∧
      (s.decodeNext = .ok .pop_IX ∨
        ∃ nn, s.decodeNext = .ok (.ld_IX_nn nn) ∨ s.decodeNext = .ok (.ld_IX_atNN nn))) ∧
    (t.iy ≠ s.iy → t.ix = s.ix ∧
      (s.decodeNext = .ok .pop_IY ∨
        ∃ nn, s.decodeNext = .ok (.ld_IY_nn nn) ∨ s.decodeNext = .ok (.ld_IY_atNN nn)))

/-- R24 and 92_eei_decisions.md D19 (log entry 16): no step and no action of the host but Reset changes the shadow
bank. -/
def Obligations.ShadowBankIsInert : Prop :=
  (∀ s t, step s = .next t → t.shadow = s.shadow) ∧
  ∀ s act, act ≠ .reset → (hostAct act s).shadow = s.shadow

/-- R22, R93 and 92_eei_decisions.md D17: whatever the trace output holds and whether an observer is
attached, a step does the same to everything else. -/
def Obligations.TraceIsObservationOnly : Prop :=
  ∀ (s : State) (p : TracePort),
    mapState (fun t => { t with trace := noTrace }) (step { s with trace := p }) =
      mapState (fun t => { t with trace := noTrace }) (step s)

/-- R52, every form that stores: the stream is read from memory, and each byte that a step has stored is what
the next step fetches wherever it reads that address. -/
def Obligations.StoresAreSeenByTheNextStep : Prop :=
  (∀ (s : State) (k : Nat), s.streamByte k = s.readByte (s.pc + BitVec.ofNat 16 k)) ∧
  (∀ r, StoreIsFetched (.ldAtHLReg r) fun s => [(s.hl, s.reg8 r)]) ∧
  (∀ n, StoreIsFetched (.ld_atHL_n n) fun s => [(s.hl, n)]) ∧
  (∀ x r d, StoreIsFetched (.ldAtIndexReg x r d) fun s => [(s.indexed x d, s.reg8 r)]) ∧
  (∀ x d n, StoreIsFetched (.ldAtIndexImm x d n) fun s => [(s.indexed x d, n)]) ∧
  StoreIsFetched .ld_atBC_A (fun s => [(s.bc, s.a)]) ∧
  StoreIsFetched .ld_atDE_A (fun s => [(s.de, s.a)]) ∧
  (∀ nn, StoreIsFetched (.ld_atNN_A nn) fun s => [(nn, s.a)]) ∧
  (∀ nn, StoreIsFetched (.ld_atNN_HL nn) fun s => wordCells nn s.hl) ∧
  (∀ p nn, StoreIsFetched (.ldAtNNPair p nn) fun s => wordCells nn (s.pair p)) ∧
  (∀ x nn, StoreIsFetched (.ldAtNNIndex x nn) fun s => wordCells nn (s.index x)) ∧
  (∀ p, StoreIsFetched (.push p) fun s => wordCells (s.sp - 2#16) (s.stackPair p)) ∧
  ∀ x, StoreIsFetched (.pushIndex x) fun s => wordCells (s.sp - 2#16) (s.index x)

/-- R183 and 92_eei_decisions.md D20 (log entry 16): a run launched Halted ends at once with no step. A
Running one takes a step: after one that completes it is the run from there, which ends normally at once
where that step was a HALT; after one that faults it has ended in that fault. The state it ends normally in
is Halted, the one it has not ended in is Running, it ends in a fault only by a faulting step from a Running
state, never in a refusal, and once ended it does not go on. -/
def Obligations.RunsEndAtHaltOrFault : Prop :=
  (∀ k s, s.halted = true → runUntilHalt k s = .halted s) ∧
  (∀ s, s.halted = false → runUntilHalt 0 s = .unfinished s) ∧
  (∀ k s t, s.halted = false → step s = .next t → runUntilHalt (k + 1) s = runUntilHalt k t) ∧
  (∀ k s t, s.halted = false → s.decodeNext = .ok .halt → step s = .next t →
    runUntilHalt (k + 1) s = .halted t) ∧
  (∀ k s p op t, s.halted = false → step s = .fault (.unknownOpcode p op t) →
    runUntilHalt (k + 1) s = .faulted p op t) ∧
  (∀ k s t, runUntilHalt k s = .halted t → t.halted = true) ∧
  (∀ k s t, runUntilHalt k s = .unfinished t → t.halted = false) ∧
  (∀ k s p op t, runUntilHalt k s = .faulted p op t →
    ∃ u, u.halted = false ∧ step u = .fault (.unknownOpcode p op t)) ∧
  (∀ k s r, runUntilHalt k s ≠ .refused r) ∧
  ∀ k n s r, runUntilHalt k s = r → (∀ t, r ≠ .unfinished t) → runUntilHalt (k + n) s = r

/-! ### Memory (20_memory.md) -/

/-- R41: a byte read back, and every other byte unchanged; the launch image before any write. -/
def Obligations.ByteStoreReadsBack : Prop :=
  (∀ (s : State) (a : Word) (v : Byte), Memory.wf s.mem = true →
    (s.writeByte a v).readByte a = v ∧
    ∀ b, b ≠ a → (s.writeByte a v).readByte b = s.readByte b) ∧
  ∀ (img : Word → Byte) (att : Bool) (a : Word), (State.powerOn img att).readByte a = img a

/-- R42, R43 and 92_eei_decisions.md D8 (log entry 6): words are little-endian, at 0xFFFF with the high
byte at 0x0000. -/
def Obligations.WordsAreLittleEndian : Prop :=
  ∀ (s : State) (a v : Word), Memory.wf s.mem = true →
    (s.readWord a).toNat = (s.readByte (a + 1#16)).toNat * 256 + (s.readByte a).toNat ∧
    (s.writeWord a v).readByte a = lowByte v ∧
    (s.writeWord a v).readByte (a + 1#16) = highByte v ∧
    (s.writeWord a v).readWord a = v ∧
    (∀ b, b ≠ a → b ≠ a + 1#16 → (s.writeWord a v).readByte b = s.readByte b) ∧
    (a = 0xFFFF → (s.writeWord a v).readByte 0x0000 = highByte v)

/-- The model's form of memory (log entry 1): canonical memories that read alike at every address are
equal. -/
def Obligations.CanonicalMemoryIsUnique : Prop :=
  ∀ s t : State, Memory.wf s.mem = true → Memory.wf t.mem = true →
    (∀ a, s.readByte a = t.readByte a) → s.mem = t.mem

/-! ### Registers and the host (10_state.md) -/

/-- R13: the law of the pairs AF, BC, DE, HL. -/
def Obligations.PairViewsFollowHalves : Prop :=
  ∀ (s : State) (p : StackPair),
    s.hostRead16 (wideName p) =
      (s.hostRead8 (highHalf p)).setWidth 16 <<< 8 ||| (s.hostRead8 (lowHalf p)).setWidth 16 ∧
    (∀ v : Word,
      (s.hostWrite16 (wideName p) v).hostRead8 (highHalf p) = v.extractLsb' 8 8 ∧
      (s.hostWrite16 (wideName p) v).hostRead8 (lowHalf p) = v.extractLsb' 0 8 ∧
      (s.hostWrite16 (wideName p) v).hostRead16 (wideName p) = v) ∧
    (∀ h : Byte,
      (s.hostWrite8 (highHalf p) h).hostRead16 (wideName p) = word h (s.hostRead8 (lowHalf p)) ∧
      (s.hostWrite8 (highHalf p) h).hostRead8 (lowHalf p) = s.hostRead8 (lowHalf p)) ∧
    ∀ l : Byte,
      (s.hostWrite8 (lowHalf p) l).hostRead16 (wideName p) = word (s.hostRead8 (highHalf p)) l ∧
      (s.hostWrite8 (lowHalf p) l).hostRead8 (highHalf p) = s.hostRead8 (highHalf p)

/-- R27 and 92_eei_decisions.md D26 (log entry 16): a host write of any of the eighteen names stores the
value and changes nothing else; a write of a pair changes its two halves. -/
def Obligations.HostWritesHaveNoSideEffect : Prop :=
  (∀ (s : State) (x : HostReg8) (v : Byte),
    (s.hostWrite8 x v).hostRead8 x = v ∧ Frame [x] [] [] s (s.hostWrite8 x v)) ∧
  (∀ (s : State) (x : HostReg16) (v : Word), x ∈ [HostReg16.SP, .PC, .IX, .IY] →
    (s.hostWrite16 x v).hostRead16 x = v ∧ Frame [] [x] [] s (s.hostWrite16 x v)) ∧
  ∀ (s : State) (p : StackPair) (v : Word),
    (s.hostWrite16 (wideName p) v).hostRead16 (wideName p) = v ∧
    Frame [highHalf p, lowHalf p] [] [] s (s.hostWrite16 (wideName p) v)

/-! ### Reset, launch, invariant -/

/-- R220: Reset zeroes every register and `halted` whatever the state before, is idempotent, and is the only
action that takes the engine from Halted to Running. That it keeps memory and the trace already emitted
rests on R223 and 92_eei_decisions.md D13 (log entry 15, DEDUCED). -/
def Obligations.ResetZeroesEveryRegister : Prop :=
  (∀ s : State,
    (∀ x, s.hostReset.hostRead8 x = 0) ∧ (∀ x, s.hostReset.hostRead16 x = 0) ∧
    s.hostReset.shadow = ⟨0, 0, 0, 0, 0, 0, 0, 0⟩ ∧ s.hostReset.halted = false ∧
    s.hostReset.mem = s.mem ∧ s.hostReset.trace = s.trace ∧ s.hostReset.hostReset = s.hostReset) ∧
  ∀ s act, s.halted = true → (hostAct act s).halted = false → act = .reset

/-- R221 (that power-on is Reset: 92_eei_decisions.md D12, log entry 15), R55 and R225, with both open
parameters free: at launch the registers are as after Reset, the
memory holds the launch image, and the first step decodes the image from address 0x0000 on. -/
def Obligations.PowerOnIsResetOnTheLaunchImage : Prop :=
  ∀ (img : Word → Byte) (att : Bool),
    (∀ a, (State.powerOn img att).readByte a = img a) ∧
    (State.powerOn img att).hostReset = State.powerOn img att ∧
    (State.powerOn img att).trace.emitted = [] ∧ (State.powerOn img att).trace.attached = att ∧
    (State.powerOn img att).decodeNext = decode (img 0x0000) (img 0x0001) (img 0x0002) (img 0x0003) ∧
    (State.powerOn img att).Inv

/-- The invariant holds in the state after reset. -/
def Obligations.ResetStateMeetsInvariant : Prop := State.reset.Inv

/-- The canonical form of memory and the zero shadow bank (R24) are kept by every step, also by one that
faults. -/
def Obligations.StepKeepsInvariant : Prop :=
  ∀ s : State, s.Inv →
    (∀ t, step s = .next t → t.Inv) ∧ ∀ p op t, step s = .fault (.unknownOpcode p op t) → t.Inv

/-- Every action of the host, a step that faults included, keeps the invariant; every launch meets it; so
every sequence of actions keeps it, and every shadow register holds 0x00 at all times (R24). -/
def Obligations.HostActionsKeepInvariant : Prop :=
  (∀ (s : State) (act : HostAction), s.Inv → (hostAct act s).Inv) ∧
  (∀ (img : Word → Byte) (att : Bool), (State.powerOn img att).Inv) ∧
  ∀ (acts : List HostAction) (s : State), s.Inv → (hostRun acts s).Inv

/-! ### Encoding (30_encoding.md) -/

/-- Every whole instruction, with every operand, decodes from its encoding, whatever bytes follow. -/
def Obligations.DecodeOfEncodeIsIdentity : Prop :=
  ∀ (i : Instr) (rest : List Byte), i.wellFormed = true → decodeBytes (encode i ++ rest) = .ok i

/-- What the decoder answers stands in the bytes: the encoding of the instruction is what it read, and a
rejection is answered only where `main` has no slot (R70, R71). That a prefix slot alone is answered, and
only where its table has no slot for the next byte, is the model's choice (log entry 4, DESIGN CHOICE). -/
def Obligations.DecodeAnswersOnlyWhatStandsThere : Prop :=
  ∀ b0 b1 b2 b3 : Byte,
    (∀ i, decode b0 b1 b2 b3 = .ok i → encode i = [b0, b1, b2, b3].take i.length) ∧
    (∀ p : Prefix, decode b0 b1 b2 b3 = .ok p.instr → b0 = p.byte ∧ p.slot b1 = .unpopulated) ∧
    ∀ op, decode b0 b1 b2 b3 = .unknownOpcode op ↔ op = b0 ∧ mainSlot b0 = .unpopulated

/-- R66 to R69: how many slots of each table are populated. The counts rest on 92_eei_decisions.md D4 (0x00 is
no slot of `main`) and D5 (ED 63 and ED 6B are slots of `ed`): log entry 9, DEDUCED. -/
def Obligations.PopulatedSlotCounts : Prop :=
  populatedCount mainSlot = 96 ∧ populatedCount ddSlot = 21 ∧ populatedCount fdSlot = 21 ∧
    populatedCount edSlot = 12

/-- R68: table `fd` has the slots of table `dd` with IY in place of IX. -/
def Obligations.FdTableIsDdTableWithIY : Prop :=
  ∀ op x y : Byte, (fdSlot op).fill x y = ((ddSlot op).fill x y).map withIY

/-- A few words written out from the spec's encodings decode to what they stand for. The opcode bytes are the
Zilog numbers (log entry 5, PRESUMED), the rejection of 0x00 is 92_eei_decisions.md D4 (log entry 9,
DEDUCED), and the prefix slot alone for DD 76 is the model's choice (log entry 4, DESIGN CHOICE). -/
def Obligations.SampleWordsDecode : Prop :=
  decode 0x41 0x00 0x00 0x00 = .ok .ld_B_C ∧
  decode 0x3E 0x7F 0x00 0x00 = .ok (.ld_A_n 0x7F) ∧
  decode 0xDD 0x46 0xF1 0x00 = .ok (.ld_B_atIX 0xF1) ∧
  decode 0xFD 0x36 0x08 0x5A = .ok (.ld_atIY_n 0x08 0x5A) ∧
  decode 0xDD 0x21 0x34 0x12 = .ok (.ld_IX_nn 0x1234) ∧
  decode 0xED 0x7B 0x00 0x20 = .ok (.ld_SP_atNN 0x2000) ∧
  decode 0xED 0x57 0x00 0x00 = .ok .ld_A_I ∧
  decode 0xF5 0x00 0x00 0x00 = .ok .push_AF ∧
  decode 0x76 0x00 0x00 0x00 = .ok .halt ∧
  decode 0xDD 0x76 0x00 0x00 = .ok .prefix_DD ∧
  decode 0x00 0x00 0x00 0x00 = .unknownOpcode 0x00
end

