-- ==== Sys2Proof/Laws/State.lean ====
section
/-! SUPPORT. One lemma per field per update, so that no proof unfolds a record update. -/

namespace Sys2Proof.Machine

/-! ### setAF -/
@[simp] theorem State.setAF_a (s : State) (v : Word) : (s.setAF v).a = highByte v := rfl
@[simp] theorem State.setAF_f (s : State) (v : Word) : (s.setAF v).f = lowByte v := rfl
@[simp] theorem State.setAF_b (s : State) (v : Word) : (s.setAF v).b = s.b := rfl
@[simp] theorem State.setAF_c (s : State) (v : Word) : (s.setAF v).c = s.c := rfl
@[simp] theorem State.setAF_d (s : State) (v : Word) : (s.setAF v).d = s.d := rfl
@[simp] theorem State.setAF_e (s : State) (v : Word) : (s.setAF v).e = s.e := rfl
@[simp] theorem State.setAF_h (s : State) (v : Word) : (s.setAF v).h = s.h := rfl
@[simp] theorem State.setAF_l (s : State) (v : Word) : (s.setAF v).l = s.l := rfl
@[simp] theorem State.setAF_i (s : State) (v : Word) : (s.setAF v).i = s.i := rfl
@[simp] theorem State.setAF_r (s : State) (v : Word) : (s.setAF v).r = s.r := rfl
@[simp] theorem State.setAF_ix (s : State) (v : Word) : (s.setAF v).ix = s.ix := rfl
@[simp] theorem State.setAF_iy (s : State) (v : Word) : (s.setAF v).iy = s.iy := rfl
@[simp] theorem State.setAF_sp (s : State) (v : Word) : (s.setAF v).sp = s.sp := rfl
@[simp] theorem State.setAF_pc (s : State) (v : Word) : (s.setAF v).pc = s.pc := rfl
@[simp] theorem State.setAF_shadow (s : State) (v : Word) : (s.setAF v).shadow = s.shadow := rfl
@[simp] theorem State.setAF_halted (s : State) (v : Word) : (s.setAF v).halted = s.halted := rfl
@[simp] theorem State.setAF_mem (s : State) (v : Word) : (s.setAF v).mem = s.mem := rfl
@[simp] theorem State.setAF_trace (s : State) (v : Word) : (s.setAF v).trace = s.trace := rfl

/-! ### setBC -/
@[simp] theorem State.setBC_a (s : State) (v : Word) : (s.setBC v).a = s.a := rfl
@[simp] theorem State.setBC_f (s : State) (v : Word) : (s.setBC v).f = s.f := rfl
@[simp] theorem State.setBC_b (s : State) (v : Word) : (s.setBC v).b = highByte v := rfl
@[simp] theorem State.setBC_c (s : State) (v : Word) : (s.setBC v).c = lowByte v := rfl
@[simp] theorem State.setBC_d (s : State) (v : Word) : (s.setBC v).d = s.d := rfl
@[simp] theorem State.setBC_e (s : State) (v : Word) : (s.setBC v).e = s.e := rfl
@[simp] theorem State.setBC_h (s : State) (v : Word) : (s.setBC v).h = s.h := rfl
@[simp] theorem State.setBC_l (s : State) (v : Word) : (s.setBC v).l = s.l := rfl
@[simp] theorem State.setBC_i (s : State) (v : Word) : (s.setBC v).i = s.i := rfl
@[simp] theorem State.setBC_r (s : State) (v : Word) : (s.setBC v).r = s.r := rfl
@[simp] theorem State.setBC_ix (s : State) (v : Word) : (s.setBC v).ix = s.ix := rfl
@[simp] theorem State.setBC_iy (s : State) (v : Word) : (s.setBC v).iy = s.iy := rfl
@[simp] theorem State.setBC_sp (s : State) (v : Word) : (s.setBC v).sp = s.sp := rfl
@[simp] theorem State.setBC_pc (s : State) (v : Word) : (s.setBC v).pc = s.pc := rfl
@[simp] theorem State.setBC_shadow (s : State) (v : Word) : (s.setBC v).shadow = s.shadow := rfl
@[simp] theorem State.setBC_halted (s : State) (v : Word) : (s.setBC v).halted = s.halted := rfl
@[simp] theorem State.setBC_mem (s : State) (v : Word) : (s.setBC v).mem = s.mem := rfl
@[simp] theorem State.setBC_trace (s : State) (v : Word) : (s.setBC v).trace = s.trace := rfl

/-! ### setDE -/
@[simp] theorem State.setDE_a (s : State) (v : Word) : (s.setDE v).a = s.a := rfl
@[simp] theorem State.setDE_f (s : State) (v : Word) : (s.setDE v).f = s.f := rfl
@[simp] theorem State.setDE_b (s : State) (v : Word) : (s.setDE v).b = s.b := rfl
@[simp] theorem State.setDE_c (s : State) (v : Word) : (s.setDE v).c = s.c := rfl
@[simp] theorem State.setDE_d (s : State) (v : Word) : (s.setDE v).d = highByte v := rfl
@[simp] theorem State.setDE_e (s : State) (v : Word) : (s.setDE v).e = lowByte v := rfl
@[simp] theorem State.setDE_h (s : State) (v : Word) : (s.setDE v).h = s.h := rfl
@[simp] theorem State.setDE_l (s : State) (v : Word) : (s.setDE v).l = s.l := rfl
@[simp] theorem State.setDE_i (s : State) (v : Word) : (s.setDE v).i = s.i := rfl
@[simp] theorem State.setDE_r (s : State) (v : Word) : (s.setDE v).r = s.r := rfl
@[simp] theorem State.setDE_ix (s : State) (v : Word) : (s.setDE v).ix = s.ix := rfl
@[simp] theorem State.setDE_iy (s : State) (v : Word) : (s.setDE v).iy = s.iy := rfl
@[simp] theorem State.setDE_sp (s : State) (v : Word) : (s.setDE v).sp = s.sp := rfl
@[simp] theorem State.setDE_pc (s : State) (v : Word) : (s.setDE v).pc = s.pc := rfl
@[simp] theorem State.setDE_shadow (s : State) (v : Word) : (s.setDE v).shadow = s.shadow := rfl
@[simp] theorem State.setDE_halted (s : State) (v : Word) : (s.setDE v).halted = s.halted := rfl
@[simp] theorem State.setDE_mem (s : State) (v : Word) : (s.setDE v).mem = s.mem := rfl
@[simp] theorem State.setDE_trace (s : State) (v : Word) : (s.setDE v).trace = s.trace := rfl

/-! ### setHL -/
@[simp] theorem State.setHL_a (s : State) (v : Word) : (s.setHL v).a = s.a := rfl
@[simp] theorem State.setHL_f (s : State) (v : Word) : (s.setHL v).f = s.f := rfl
@[simp] theorem State.setHL_b (s : State) (v : Word) : (s.setHL v).b = s.b := rfl
@[simp] theorem State.setHL_c (s : State) (v : Word) : (s.setHL v).c = s.c := rfl
@[simp] theorem State.setHL_d (s : State) (v : Word) : (s.setHL v).d = s.d := rfl
@[simp] theorem State.setHL_e (s : State) (v : Word) : (s.setHL v).e = s.e := rfl
@[simp] theorem State.setHL_h (s : State) (v : Word) : (s.setHL v).h = highByte v := rfl
@[simp] theorem State.setHL_l (s : State) (v : Word) : (s.setHL v).l = lowByte v := rfl
@[simp] theorem State.setHL_i (s : State) (v : Word) : (s.setHL v).i = s.i := rfl
@[simp] theorem State.setHL_r (s : State) (v : Word) : (s.setHL v).r = s.r := rfl
@[simp] theorem State.setHL_ix (s : State) (v : Word) : (s.setHL v).ix = s.ix := rfl
@[simp] theorem State.setHL_iy (s : State) (v : Word) : (s.setHL v).iy = s.iy := rfl
@[simp] theorem State.setHL_sp (s : State) (v : Word) : (s.setHL v).sp = s.sp := rfl
@[simp] theorem State.setHL_pc (s : State) (v : Word) : (s.setHL v).pc = s.pc := rfl
@[simp] theorem State.setHL_shadow (s : State) (v : Word) : (s.setHL v).shadow = s.shadow := rfl
@[simp] theorem State.setHL_halted (s : State) (v : Word) : (s.setHL v).halted = s.halted := rfl
@[simp] theorem State.setHL_mem (s : State) (v : Word) : (s.setHL v).mem = s.mem := rfl
@[simp] theorem State.setHL_trace (s : State) (v : Word) : (s.setHL v).trace = s.trace := rfl

/-! ### setSP -/
@[simp] theorem State.setSP_a (s : State) (v : Word) : (s.setSP v).a = s.a := rfl
@[simp] theorem State.setSP_f (s : State) (v : Word) : (s.setSP v).f = s.f := rfl
@[simp] theorem State.setSP_b (s : State) (v : Word) : (s.setSP v).b = s.b := rfl
@[simp] theorem State.setSP_c (s : State) (v : Word) : (s.setSP v).c = s.c := rfl
@[simp] theorem State.setSP_d (s : State) (v : Word) : (s.setSP v).d = s.d := rfl
@[simp] theorem State.setSP_e (s : State) (v : Word) : (s.setSP v).e = s.e := rfl
@[simp] theorem State.setSP_h (s : State) (v : Word) : (s.setSP v).h = s.h := rfl
@[simp] theorem State.setSP_l (s : State) (v : Word) : (s.setSP v).l = s.l := rfl
@[simp] theorem State.setSP_i (s : State) (v : Word) : (s.setSP v).i = s.i := rfl
@[simp] theorem State.setSP_r (s : State) (v : Word) : (s.setSP v).r = s.r := rfl
@[simp] theorem State.setSP_ix (s : State) (v : Word) : (s.setSP v).ix = s.ix := rfl
@[simp] theorem State.setSP_iy (s : State) (v : Word) : (s.setSP v).iy = s.iy := rfl
@[simp] theorem State.setSP_sp (s : State) (v : Word) : (s.setSP v).sp = v := rfl
@[simp] theorem State.setSP_pc (s : State) (v : Word) : (s.setSP v).pc = s.pc := rfl
@[simp] theorem State.setSP_shadow (s : State) (v : Word) : (s.setSP v).shadow = s.shadow := rfl
@[simp] theorem State.setSP_halted (s : State) (v : Word) : (s.setSP v).halted = s.halted := rfl
@[simp] theorem State.setSP_mem (s : State) (v : Word) : (s.setSP v).mem = s.mem := rfl
@[simp] theorem State.setSP_trace (s : State) (v : Word) : (s.setSP v).trace = s.trace := rfl

/-! ### setPC -/
@[simp] theorem State.setPC_a (s : State) (v : Word) : (s.setPC v).a = s.a := rfl
@[simp] theorem State.setPC_f (s : State) (v : Word) : (s.setPC v).f = s.f := rfl
@[simp] theorem State.setPC_b (s : State) (v : Word) : (s.setPC v).b = s.b := rfl
@[simp] theorem State.setPC_c (s : State) (v : Word) : (s.setPC v).c = s.c := rfl
@[simp] theorem State.setPC_d (s : State) (v : Word) : (s.setPC v).d = s.d := rfl
@[simp] theorem State.setPC_e (s : State) (v : Word) : (s.setPC v).e = s.e := rfl
@[simp] theorem State.setPC_h (s : State) (v : Word) : (s.setPC v).h = s.h := rfl
@[simp] theorem State.setPC_l (s : State) (v : Word) : (s.setPC v).l = s.l := rfl
@[simp] theorem State.setPC_i (s : State) (v : Word) : (s.setPC v).i = s.i := rfl
@[simp] theorem State.setPC_r (s : State) (v : Word) : (s.setPC v).r = s.r := rfl
@[simp] theorem State.setPC_ix (s : State) (v : Word) : (s.setPC v).ix = s.ix := rfl
@[simp] theorem State.setPC_iy (s : State) (v : Word) : (s.setPC v).iy = s.iy := rfl
@[simp] theorem State.setPC_sp (s : State) (v : Word) : (s.setPC v).sp = s.sp := rfl
@[simp] theorem State.setPC_pc (s : State) (v : Word) : (s.setPC v).pc = v := rfl
@[simp] theorem State.setPC_shadow (s : State) (v : Word) : (s.setPC v).shadow = s.shadow := rfl
@[simp] theorem State.setPC_halted (s : State) (v : Word) : (s.setPC v).halted = s.halted := rfl
@[simp] theorem State.setPC_mem (s : State) (v : Word) : (s.setPC v).mem = s.mem := rfl
@[simp] theorem State.setPC_trace (s : State) (v : Word) : (s.setPC v).trace = s.trace := rfl

/-! ### setI -/
@[simp] theorem State.setI_a (s : State) (v : Byte) : (s.setI v).a = s.a := rfl
@[simp] theorem State.setI_f (s : State) (v : Byte) : (s.setI v).f = s.f := rfl
@[simp] theorem State.setI_b (s : State) (v : Byte) : (s.setI v).b = s.b := rfl
@[simp] theorem State.setI_c (s : State) (v : Byte) : (s.setI v).c = s.c := rfl
@[simp] theorem State.setI_d (s : State) (v : Byte) : (s.setI v).d = s.d := rfl
@[simp] theorem State.setI_e (s : State) (v : Byte) : (s.setI v).e = s.e := rfl
@[simp] theorem State.setI_h (s : State) (v : Byte) : (s.setI v).h = s.h := rfl
@[simp] theorem State.setI_l (s : State) (v : Byte) : (s.setI v).l = s.l := rfl
@[simp] theorem State.setI_i (s : State) (v : Byte) : (s.setI v).i = v := rfl
@[simp] theorem State.setI_r (s : State) (v : Byte) : (s.setI v).r = s.r := rfl
@[simp] theorem State.setI_ix (s : State) (v : Byte) : (s.setI v).ix = s.ix := rfl
@[simp] theorem State.setI_iy (s : State) (v : Byte) : (s.setI v).iy = s.iy := rfl
@[simp] theorem State.setI_sp (s : State) (v : Byte) : (s.setI v).sp = s.sp := rfl
@[simp] theorem State.setI_pc (s : State) (v : Byte) : (s.setI v).pc = s.pc := rfl
@[simp] theorem State.setI_shadow (s : State) (v : Byte) : (s.setI v).shadow = s.shadow := rfl
@[simp] theorem State.setI_halted (s : State) (v : Byte) : (s.setI v).halted = s.halted := rfl
@[simp] theorem State.setI_mem (s : State) (v : Byte) : (s.setI v).mem = s.mem := rfl
@[simp] theorem State.setI_trace (s : State) (v : Byte) : (s.setI v).trace = s.trace := rfl

/-! ### setR -/
@[simp] theorem State.setR_a (s : State) (v : Byte) : (s.setR v).a = s.a := rfl
@[simp] theorem State.setR_f (s : State) (v : Byte) : (s.setR v).f = s.f := rfl
@[simp] theorem State.setR_b (s : State) (v : Byte) : (s.setR v).b = s.b := rfl
@[simp] theorem State.setR_c (s : State) (v : Byte) : (s.setR v).c = s.c := rfl
@[simp] theorem State.setR_d (s : State) (v : Byte) : (s.setR v).d = s.d := rfl
@[simp] theorem State.setR_e (s : State) (v : Byte) : (s.setR v).e = s.e := rfl
@[simp] theorem State.setR_h (s : State) (v : Byte) : (s.setR v).h = s.h := rfl
@[simp] theorem State.setR_l (s : State) (v : Byte) : (s.setR v).l = s.l := rfl
@[simp] theorem State.setR_i (s : State) (v : Byte) : (s.setR v).i = s.i := rfl
@[simp] theorem State.setR_r (s : State) (v : Byte) : (s.setR v).r = v := rfl
@[simp] theorem State.setR_ix (s : State) (v : Byte) : (s.setR v).ix = s.ix := rfl
@[simp] theorem State.setR_iy (s : State) (v : Byte) : (s.setR v).iy = s.iy := rfl
@[simp] theorem State.setR_sp (s : State) (v : Byte) : (s.setR v).sp = s.sp := rfl
@[simp] theorem State.setR_pc (s : State) (v : Byte) : (s.setR v).pc = s.pc := rfl
@[simp] theorem State.setR_shadow (s : State) (v : Byte) : (s.setR v).shadow = s.shadow := rfl
@[simp] theorem State.setR_halted (s : State) (v : Byte) : (s.setR v).halted = s.halted := rfl
@[simp] theorem State.setR_mem (s : State) (v : Byte) : (s.setR v).mem = s.mem := rfl
@[simp] theorem State.setR_trace (s : State) (v : Byte) : (s.setR v).trace = s.trace := rfl

/-! ### writeByte -/
@[simp] theorem State.writeByte_a (s : State) (a : Word) (v : Byte) : (s.writeByte a v).a = s.a := rfl
@[simp] theorem State.writeByte_f (s : State) (a : Word) (v : Byte) : (s.writeByte a v).f = s.f := rfl
@[simp] theorem State.writeByte_b (s : State) (a : Word) (v : Byte) : (s.writeByte a v).b = s.b := rfl
@[simp] theorem State.writeByte_c (s : State) (a : Word) (v : Byte) : (s.writeByte a v).c = s.c := rfl
@[simp] theorem State.writeByte_d (s : State) (a : Word) (v : Byte) : (s.writeByte a v).d = s.d := rfl
@[simp] theorem State.writeByte_e (s : State) (a : Word) (v : Byte) : (s.writeByte a v).e = s.e := rfl
@[simp] theorem State.writeByte_h (s : State) (a : Word) (v : Byte) : (s.writeByte a v).h = s.h := rfl
@[simp] theorem State.writeByte_l (s : State) (a : Word) (v : Byte) : (s.writeByte a v).l = s.l := rfl
@[simp] theorem State.writeByte_i (s : State) (a : Word) (v : Byte) : (s.writeByte a v).i = s.i := rfl
@[simp] theorem State.writeByte_r (s : State) (a : Word) (v : Byte) : (s.writeByte a v).r = s.r := rfl
@[simp] theorem State.writeByte_ix (s : State) (a : Word) (v : Byte) : (s.writeByte a v).ix = s.ix := rfl
@[simp] theorem State.writeByte_iy (s : State) (a : Word) (v : Byte) : (s.writeByte a v).iy = s.iy := rfl
@[simp] theorem State.writeByte_sp (s : State) (a : Word) (v : Byte) : (s.writeByte a v).sp = s.sp := rfl
@[simp] theorem State.writeByte_pc (s : State) (a : Word) (v : Byte) : (s.writeByte a v).pc = s.pc := rfl
@[simp] theorem State.writeByte_shadow (s : State) (a : Word) (v : Byte) : (s.writeByte a v).shadow = s.shadow := rfl
@[simp] theorem State.writeByte_halted (s : State) (a : Word) (v : Byte) : (s.writeByte a v).halted = s.halted := rfl
@[simp] theorem State.writeByte_mem (s : State) (a : Word) (v : Byte) : (s.writeByte a v).mem = Memory.set s.mem a.toNat v := rfl
@[simp] theorem State.writeByte_trace (s : State) (a : Word) (v : Byte) : (s.writeByte a v).trace = s.trace := rfl

/-! ### writeWord -/
@[simp] theorem State.writeWord_a (s : State) (a v : Word) : (s.writeWord a v).a = s.a :=
  (State.writeByte_a _ _ _).trans (State.writeByte_a _ _ _)
@[simp] theorem State.writeWord_f (s : State) (a v : Word) : (s.writeWord a v).f = s.f :=
  (State.writeByte_f _ _ _).trans (State.writeByte_f _ _ _)
@[simp] theorem State.writeWord_b (s : State) (a v : Word) : (s.writeWord a v).b = s.b :=
  (State.writeByte_b _ _ _).trans (State.writeByte_b _ _ _)
@[simp] theorem State.writeWord_c (s : State) (a v : Word) : (s.writeWord a v).c = s.c :=
  (State.writeByte_c _ _ _).trans (State.writeByte_c _ _ _)
@[simp] theorem State.writeWord_d (s : State) (a v : Word) : (s.writeWord a v).d = s.d :=
  (State.writeByte_d _ _ _).trans (State.writeByte_d _ _ _)
@[simp] theorem State.writeWord_e (s : State) (a v : Word) : (s.writeWord a v).e = s.e :=
  (State.writeByte_e _ _ _).trans (State.writeByte_e _ _ _)
@[simp] theorem State.writeWord_h (s : State) (a v : Word) : (s.writeWord a v).h = s.h :=
  (State.writeByte_h _ _ _).trans (State.writeByte_h _ _ _)
@[simp] theorem State.writeWord_l (s : State) (a v : Word) : (s.writeWord a v).l = s.l :=
  (State.writeByte_l _ _ _).trans (State.writeByte_l _ _ _)
@[simp] theorem State.writeWord_i (s : State) (a v : Word) : (s.writeWord a v).i = s.i :=
  (State.writeByte_i _ _ _).trans (State.writeByte_i _ _ _)
@[simp] theorem State.writeWord_r (s : State) (a v : Word) : (s.writeWord a v).r = s.r :=
  (State.writeByte_r _ _ _).trans (State.writeByte_r _ _ _)
@[simp] theorem State.writeWord_ix (s : State) (a v : Word) : (s.writeWord a v).ix = s.ix :=
  (State.writeByte_ix _ _ _).trans (State.writeByte_ix _ _ _)
@[simp] theorem State.writeWord_iy (s : State) (a v : Word) : (s.writeWord a v).iy = s.iy :=
  (State.writeByte_iy _ _ _).trans (State.writeByte_iy _ _ _)
@[simp] theorem State.writeWord_sp (s : State) (a v : Word) : (s.writeWord a v).sp = s.sp :=
  (State.writeByte_sp _ _ _).trans (State.writeByte_sp _ _ _)
@[simp] theorem State.writeWord_pc (s : State) (a v : Word) : (s.writeWord a v).pc = s.pc :=
  (State.writeByte_pc _ _ _).trans (State.writeByte_pc _ _ _)
@[simp] theorem State.writeWord_shadow (s : State) (a v : Word) : (s.writeWord a v).shadow = s.shadow :=
  (State.writeByte_shadow _ _ _).trans (State.writeByte_shadow _ _ _)
@[simp] theorem State.writeWord_halted (s : State) (a v : Word) : (s.writeWord a v).halted = s.halted :=
  (State.writeByte_halted _ _ _).trans (State.writeByte_halted _ _ _)
@[simp] theorem State.writeWord_mem (s : State) (a v : Word) : (s.writeWord a v).mem = Memory.set (Memory.set s.mem a.toNat (lowByte v)) (a + 1#16).toNat (highByte v) := rfl
@[simp] theorem State.writeWord_trace (s : State) (a v : Word) : (s.writeWord a v).trace = s.trace :=
  (State.writeByte_trace _ _ _).trans (State.writeByte_trace _ _ _)

/-! ### push8 -/
@[simp] theorem State.push8_a (s : State) (v : Byte) : (s.push8 v).a = s.a := rfl
@[simp] theorem State.push8_f (s : State) (v : Byte) : (s.push8 v).f = s.f := rfl
@[simp] theorem State.push8_b (s : State) (v : Byte) : (s.push8 v).b = s.b := rfl
@[simp] theorem State.push8_c (s : State) (v : Byte) : (s.push8 v).c = s.c := rfl
@[simp] theorem State.push8_d (s : State) (v : Byte) : (s.push8 v).d = s.d := rfl
@[simp] theorem State.push8_e (s : State) (v : Byte) : (s.push8 v).e = s.e := rfl
@[simp] theorem State.push8_h (s : State) (v : Byte) : (s.push8 v).h = s.h := rfl
@[simp] theorem State.push8_l (s : State) (v : Byte) : (s.push8 v).l = s.l := rfl
@[simp] theorem State.push8_i (s : State) (v : Byte) : (s.push8 v).i = s.i := rfl
@[simp] theorem State.push8_r (s : State) (v : Byte) : (s.push8 v).r = s.r := rfl
@[simp] theorem State.push8_ix (s : State) (v : Byte) : (s.push8 v).ix = s.ix := rfl
@[simp] theorem State.push8_iy (s : State) (v : Byte) : (s.push8 v).iy = s.iy := rfl
@[simp] theorem State.push8_sp (s : State) (v : Byte) : (s.push8 v).sp = s.sp - 1#16 := rfl
@[simp] theorem State.push8_pc (s : State) (v : Byte) : (s.push8 v).pc = s.pc := rfl
@[simp] theorem State.push8_shadow (s : State) (v : Byte) : (s.push8 v).shadow = s.shadow := rfl
@[simp] theorem State.push8_halted (s : State) (v : Byte) : (s.push8 v).halted = s.halted := rfl
@[simp] theorem State.push8_mem (s : State) (v : Byte) : (s.push8 v).mem = Memory.set s.mem (s.sp - 1#16).toNat v := rfl
@[simp] theorem State.push8_trace (s : State) (v : Byte) : (s.push8 v).trace = s.trace := rfl

/-! ### pop8 -/
@[simp] theorem State.pop8_a (s : State) : (s.pop8.2).a = s.a := rfl
@[simp] theorem State.pop8_f (s : State) : (s.pop8.2).f = s.f := rfl
@[simp] theorem State.pop8_b (s : State) : (s.pop8.2).b = s.b := rfl
@[simp] theorem State.pop8_c (s : State) : (s.pop8.2).c = s.c := rfl
@[simp] theorem State.pop8_d (s : State) : (s.pop8.2).d = s.d := rfl
@[simp] theorem State.pop8_e (s : State) : (s.pop8.2).e = s.e := rfl
@[simp] theorem State.pop8_h (s : State) : (s.pop8.2).h = s.h := rfl
@[simp] theorem State.pop8_l (s : State) : (s.pop8.2).l = s.l := rfl
@[simp] theorem State.pop8_i (s : State) : (s.pop8.2).i = s.i := rfl
@[simp] theorem State.pop8_r (s : State) : (s.pop8.2).r = s.r := rfl
@[simp] theorem State.pop8_ix (s : State) : (s.pop8.2).ix = s.ix := rfl
@[simp] theorem State.pop8_iy (s : State) : (s.pop8.2).iy = s.iy := rfl
@[simp] theorem State.pop8_sp (s : State) : (s.pop8.2).sp = s.sp + 1#16 := rfl
@[simp] theorem State.pop8_pc (s : State) : (s.pop8.2).pc = s.pc := rfl
@[simp] theorem State.pop8_shadow (s : State) : (s.pop8.2).shadow = s.shadow := rfl
@[simp] theorem State.pop8_halted (s : State) : (s.pop8.2).halted = s.halted := rfl
@[simp] theorem State.pop8_mem (s : State) : (s.pop8.2).mem = s.mem := rfl
@[simp] theorem State.pop8_trace (s : State) : (s.pop8.2).trace = s.trace := rfl

/-! ### push16 -/
@[simp] theorem State.push16_a (s : State) (v : Word) : (s.push16 v).a = s.a :=
  (State.push8_a _ _).trans (State.push8_a _ _)
@[simp] theorem State.push16_f (s : State) (v : Word) : (s.push16 v).f = s.f :=
  (State.push8_f _ _).trans (State.push8_f _ _)
@[simp] theorem State.push16_b (s : State) (v : Word) : (s.push16 v).b = s.b :=
  (State.push8_b _ _).trans (State.push8_b _ _)
@[simp] theorem State.push16_c (s : State) (v : Word) : (s.push16 v).c = s.c :=
  (State.push8_c _ _).trans (State.push8_c _ _)
@[simp] theorem State.push16_d (s : State) (v : Word) : (s.push16 v).d = s.d :=
  (State.push8_d _ _).trans (State.push8_d _ _)
@[simp] theorem State.push16_e (s : State) (v : Word) : (s.push16 v).e = s.e :=
  (State.push8_e _ _).trans (State.push8_e _ _)
@[simp] theorem State.push16_h (s : State) (v : Word) : (s.push16 v).h = s.h :=
  (State.push8_h _ _).trans (State.push8_h _ _)
@[simp] theorem State.push16_l (s : State) (v : Word) : (s.push16 v).l = s.l :=
  (State.push8_l _ _).trans (State.push8_l _ _)
@[simp] theorem State.push16_i (s : State) (v : Word) : (s.push16 v).i = s.i :=
  (State.push8_i _ _).trans (State.push8_i _ _)
@[simp] theorem State.push16_r (s : State) (v : Word) : (s.push16 v).r = s.r :=
  (State.push8_r _ _).trans (State.push8_r _ _)
@[simp] theorem State.push16_ix (s : State) (v : Word) : (s.push16 v).ix = s.ix :=
  (State.push8_ix _ _).trans (State.push8_ix _ _)
@[simp] theorem State.push16_iy (s : State) (v : Word) : (s.push16 v).iy = s.iy :=
  (State.push8_iy _ _).trans (State.push8_iy _ _)
@[simp] theorem State.push16_pc (s : State) (v : Word) : (s.push16 v).pc = s.pc :=
  (State.push8_pc _ _).trans (State.push8_pc _ _)
@[simp] theorem State.push16_shadow (s : State) (v : Word) : (s.push16 v).shadow = s.shadow :=
  (State.push8_shadow _ _).trans (State.push8_shadow _ _)
@[simp] theorem State.push16_halted (s : State) (v : Word) : (s.push16 v).halted = s.halted :=
  (State.push8_halted _ _).trans (State.push8_halted _ _)
@[simp] theorem State.push16_trace (s : State) (v : Word) : (s.push16 v).trace = s.trace :=
  (State.push8_trace _ _).trans (State.push8_trace _ _)

/-! ### pop16 -/
@[simp] theorem State.pop16_a (s : State) : (s.pop16.2).a = s.a :=
  (State.pop8_a _).trans (State.pop8_a _)
@[simp] theorem State.pop16_f (s : State) : (s.pop16.2).f = s.f :=
  (State.pop8_f _).trans (State.pop8_f _)
@[simp] theorem State.pop16_b (s : State) : (s.pop16.2).b = s.b :=
  (State.pop8_b _).trans (State.pop8_b _)
@[simp] theorem State.pop16_c (s : State) : (s.pop16.2).c = s.c :=
  (State.pop8_c _).trans (State.pop8_c _)
@[simp] theorem State.pop16_d (s : State) : (s.pop16.2).d = s.d :=
  (State.pop8_d _).trans (State.pop8_d _)
@[simp] theorem State.pop16_e (s : State) : (s.pop16.2).e = s.e :=
  (State.pop8_e _).trans (State.pop8_e _)
@[simp] theorem State.pop16_h (s : State) : (s.pop16.2).h = s.h :=
  (State.pop8_h _).trans (State.pop8_h _)
@[simp] theorem State.pop16_l (s : State) : (s.pop16.2).l = s.l :=
  (State.pop8_l _).trans (State.pop8_l _)
@[simp] theorem State.pop16_i (s : State) : (s.pop16.2).i = s.i :=
  (State.pop8_i _).trans (State.pop8_i _)
@[simp] theorem State.pop16_r (s : State) : (s.pop16.2).r = s.r :=
  (State.pop8_r _).trans (State.pop8_r _)
@[simp] theorem State.pop16_ix (s : State) : (s.pop16.2).ix = s.ix :=
  (State.pop8_ix _).trans (State.pop8_ix _)
@[simp] theorem State.pop16_iy (s : State) : (s.pop16.2).iy = s.iy :=
  (State.pop8_iy _).trans (State.pop8_iy _)
@[simp] theorem State.pop16_pc (s : State) : (s.pop16.2).pc = s.pc :=
  (State.pop8_pc _).trans (State.pop8_pc _)
@[simp] theorem State.pop16_shadow (s : State) : (s.pop16.2).shadow = s.shadow :=
  (State.pop8_shadow _).trans (State.pop8_shadow _)
@[simp] theorem State.pop16_halted (s : State) : (s.pop16.2).halted = s.halted :=
  (State.pop8_halted _).trans (State.pop8_halted _)
@[simp] theorem State.pop16_mem (s : State) : (s.pop16.2).mem = s.mem :=
  (State.pop8_mem _).trans (State.pop8_mem _)
@[simp] theorem State.pop16_trace (s : State) : (s.pop16.2).trace = s.trace :=
  (State.pop8_trace _).trans (State.pop8_trace _)

/-! ### fetch8 -/
@[simp] theorem State.fetch8_a (s : State) : (s.fetch8.2).a = s.a := rfl
@[simp] theorem State.fetch8_f (s : State) : (s.fetch8.2).f = s.f := rfl
@[simp] theorem State.fetch8_b (s : State) : (s.fetch8.2).b = s.b := rfl
@[simp] theorem State.fetch8_c (s : State) : (s.fetch8.2).c = s.c := rfl
@[simp] theorem State.fetch8_d (s : State) : (s.fetch8.2).d = s.d := rfl
@[simp] theorem State.fetch8_e (s : State) : (s.fetch8.2).e = s.e := rfl
@[simp] theorem State.fetch8_h (s : State) : (s.fetch8.2).h = s.h := rfl
@[simp] theorem State.fetch8_l (s : State) : (s.fetch8.2).l = s.l := rfl
@[simp] theorem State.fetch8_i (s : State) : (s.fetch8.2).i = s.i := rfl
@[simp] theorem State.fetch8_r (s : State) : (s.fetch8.2).r = s.r := rfl
@[simp] theorem State.fetch8_ix (s : State) : (s.fetch8.2).ix = s.ix := rfl
@[simp] theorem State.fetch8_iy (s : State) : (s.fetch8.2).iy = s.iy := rfl
@[simp] theorem State.fetch8_sp (s : State) : (s.fetch8.2).sp = s.sp := rfl
@[simp] theorem State.fetch8_pc (s : State) : (s.fetch8.2).pc = s.pc + 1#16 := rfl
@[simp] theorem State.fetch8_shadow (s : State) : (s.fetch8.2).shadow = s.shadow := rfl
@[simp] theorem State.fetch8_halted (s : State) : (s.fetch8.2).halted = s.halted := rfl
@[simp] theorem State.fetch8_mem (s : State) : (s.fetch8.2).mem = s.mem := rfl
@[simp] theorem State.fetch8_trace (s : State) : (s.fetch8.2).trace = s.trace.emit (s.readByte s.pc) := rfl

/-! ### fetch16 -/
@[simp] theorem State.fetch16_a (s : State) : (s.fetch16.2).a = s.a :=
  (State.fetch8_a _).trans (State.fetch8_a _)
@[simp] theorem State.fetch16_f (s : State) : (s.fetch16.2).f = s.f :=
  (State.fetch8_f _).trans (State.fetch8_f _)
@[simp] theorem State.fetch16_b (s : State) : (s.fetch16.2).b = s.b :=
  (State.fetch8_b _).trans (State.fetch8_b _)
@[simp] theorem State.fetch16_c (s : State) : (s.fetch16.2).c = s.c :=
  (State.fetch8_c _).trans (State.fetch8_c _)
@[simp] theorem State.fetch16_d (s : State) : (s.fetch16.2).d = s.d :=
  (State.fetch8_d _).trans (State.fetch8_d _)
@[simp] theorem State.fetch16_e (s : State) : (s.fetch16.2).e = s.e :=
  (State.fetch8_e _).trans (State.fetch8_e _)
@[simp] theorem State.fetch16_h (s : State) : (s.fetch16.2).h = s.h :=
  (State.fetch8_h _).trans (State.fetch8_h _)
@[simp] theorem State.fetch16_l (s : State) : (s.fetch16.2).l = s.l :=
  (State.fetch8_l _).trans (State.fetch8_l _)
@[simp] theorem State.fetch16_i (s : State) : (s.fetch16.2).i = s.i :=
  (State.fetch8_i _).trans (State.fetch8_i _)
@[simp] theorem State.fetch16_r (s : State) : (s.fetch16.2).r = s.r :=
  (State.fetch8_r _).trans (State.fetch8_r _)
@[simp] theorem State.fetch16_ix (s : State) : (s.fetch16.2).ix = s.ix :=
  (State.fetch8_ix _).trans (State.fetch8_ix _)
@[simp] theorem State.fetch16_iy (s : State) : (s.fetch16.2).iy = s.iy :=
  (State.fetch8_iy _).trans (State.fetch8_iy _)
@[simp] theorem State.fetch16_sp (s : State) : (s.fetch16.2).sp = s.sp :=
  (State.fetch8_sp _).trans (State.fetch8_sp _)
@[simp] theorem State.fetch16_shadow (s : State) : (s.fetch16.2).shadow = s.shadow :=
  (State.fetch8_shadow _).trans (State.fetch8_shadow _)
@[simp] theorem State.fetch16_halted (s : State) : (s.fetch16.2).halted = s.halted :=
  (State.fetch8_halted _).trans (State.fetch8_halted _)
@[simp] theorem State.fetch16_mem (s : State) : (s.fetch16.2).mem = s.mem :=
  (State.fetch8_mem _).trans (State.fetch8_mem _)
@[simp] theorem State.fetch16_trace (s : State) : (s.fetch16.2).trace = (s.trace.emit (s.readByte s.pc)).emit (s.readByte (s.pc + 1#16)) := rfl

/-! ### setReg8 -/
@[simp] theorem State.setReg8_f (s : State) (x : Reg8) (v : Byte) : (s.setReg8 x v).f = s.f := by cases x <;> rfl
@[simp] theorem State.setReg8_i (s : State) (x : Reg8) (v : Byte) : (s.setReg8 x v).i = s.i := by cases x <;> rfl
@[simp] theorem State.setReg8_r (s : State) (x : Reg8) (v : Byte) : (s.setReg8 x v).r = s.r := by cases x <;> rfl
@[simp] theorem State.setReg8_ix (s : State) (x : Reg8) (v : Byte) : (s.setReg8 x v).ix = s.ix := by cases x <;> rfl
@[simp] theorem State.setReg8_iy (s : State) (x : Reg8) (v : Byte) : (s.setReg8 x v).iy = s.iy := by cases x <;> rfl
@[simp] theorem State.setReg8_sp (s : State) (x : Reg8) (v : Byte) : (s.setReg8 x v).sp = s.sp := by cases x <;> rfl
@[simp] theorem State.setReg8_pc (s : State) (x : Reg8) (v : Byte) : (s.setReg8 x v).pc = s.pc := by cases x <;> rfl
@[simp] theorem State.setReg8_shadow (s : State) (x : Reg8) (v : Byte) : (s.setReg8 x v).shadow = s.shadow := by cases x <;> rfl
@[simp] theorem State.setReg8_halted (s : State) (x : Reg8) (v : Byte) : (s.setReg8 x v).halted = s.halted := by cases x <;> rfl
@[simp] theorem State.setReg8_mem (s : State) (x : Reg8) (v : Byte) : (s.setReg8 x v).mem = s.mem := by cases x <;> rfl
@[simp] theorem State.setReg8_trace (s : State) (x : Reg8) (v : Byte) : (s.setReg8 x v).trace = s.trace := by cases x <;> rfl

/-! ### setPair -/
@[simp] theorem State.setPair_a (s : State) (x : Pair) (v : Word) : (s.setPair x v).a = s.a := by cases x <;> rfl
@[simp] theorem State.setPair_f (s : State) (x : Pair) (v : Word) : (s.setPair x v).f = s.f := by cases x <;> rfl
@[simp] theorem State.setPair_i (s : State) (x : Pair) (v : Word) : (s.setPair x v).i = s.i := by cases x <;> rfl
@[simp] theorem State.setPair_r (s : State) (x : Pair) (v : Word) : (s.setPair x v).r = s.r := by cases x <;> rfl
@[simp] theorem State.setPair_ix (s : State) (x : Pair) (v : Word) : (s.setPair x v).ix = s.ix := by cases x <;> rfl
@[simp] theorem State.setPair_iy (s : State) (x : Pair) (v : Word) : (s.setPair x v).iy = s.iy := by cases x <;> rfl
@[simp] theorem State.setPair_pc (s : State) (x : Pair) (v : Word) : (s.setPair x v).pc = s.pc := by cases x <;> rfl
@[simp] theorem State.setPair_shadow (s : State) (x : Pair) (v : Word) : (s.setPair x v).shadow = s.shadow := by cases x <;> rfl
@[simp] theorem State.setPair_halted (s : State) (x : Pair) (v : Word) : (s.setPair x v).halted = s.halted := by cases x <;> rfl
@[simp] theorem State.setPair_mem (s : State) (x : Pair) (v : Word) : (s.setPair x v).mem = s.mem := by cases x <;> rfl
@[simp] theorem State.setPair_trace (s : State) (x : Pair) (v : Word) : (s.setPair x v).trace = s.trace := by cases x <;> rfl

/-! ### setStackPair -/
@[simp] theorem State.setStackPair_i (s : State) (x : StackPair) (v : Word) : (s.setStackPair x v).i = s.i := by cases x <;> rfl
@[simp] theorem State.setStackPair_r (s : State) (x : StackPair) (v : Word) : (s.setStackPair x v).r = s.r := by cases x <;> rfl
@[simp] theorem State.setStackPair_ix (s : State) (x : StackPair) (v : Word) : (s.setStackPair x v).ix = s.ix := by cases x <;> rfl
@[simp] theorem State.setStackPair_iy (s : State) (x : StackPair) (v : Word) : (s.setStackPair x v).iy = s.iy := by cases x <;> rfl
@[simp] theorem State.setStackPair_sp (s : State) (x : StackPair) (v : Word) : (s.setStackPair x v).sp = s.sp := by cases x <;> rfl
@[simp] theorem State.setStackPair_pc (s : State) (x : StackPair) (v : Word) : (s.setStackPair x v).pc = s.pc := by cases x <;> rfl
@[simp] theorem State.setStackPair_shadow (s : State) (x : StackPair) (v : Word) : (s.setStackPair x v).shadow = s.shadow := by cases x <;> rfl
@[simp] theorem State.setStackPair_halted (s : State) (x : StackPair) (v : Word) : (s.setStackPair x v).halted = s.halted := by cases x <;> rfl
@[simp] theorem State.setStackPair_mem (s : State) (x : StackPair) (v : Word) : (s.setStackPair x v).mem = s.mem := by cases x <;> rfl
@[simp] theorem State.setStackPair_trace (s : State) (x : StackPair) (v : Word) : (s.setStackPair x v).trace = s.trace := by cases x <;> rfl

/-! ### setIndex -/
@[simp] theorem State.setIndex_a (s : State) (x : Index) (v : Word) : (s.setIndex x v).a = s.a := by cases x <;> rfl
@[simp] theorem State.setIndex_f (s : State) (x : Index) (v : Word) : (s.setIndex x v).f = s.f := by cases x <;> rfl
@[simp] theorem State.setIndex_b (s : State) (x : Index) (v : Word) : (s.setIndex x v).b = s.b := by cases x <;> rfl
@[simp] theorem State.setIndex_c (s : State) (x : Index) (v : Word) : (s.setIndex x v).c = s.c := by cases x <;> rfl
@[simp] theorem State.setIndex_d (s : State) (x : Index) (v : Word) : (s.setIndex x v).d = s.d := by cases x <;> rfl
@[simp] theorem State.setIndex_e (s : State) (x : Index) (v : Word) : (s.setIndex x v).e = s.e := by cases x <;> rfl
@[simp] theorem State.setIndex_h (s : State) (x : Index) (v : Word) : (s.setIndex x v).h = s.h := by cases x <;> rfl
@[simp] theorem State.setIndex_l (s : State) (x : Index) (v : Word) : (s.setIndex x v).l = s.l := by cases x <;> rfl
@[simp] theorem State.setIndex_i (s : State) (x : Index) (v : Word) : (s.setIndex x v).i = s.i := by cases x <;> rfl
@[simp] theorem State.setIndex_r (s : State) (x : Index) (v : Word) : (s.setIndex x v).r = s.r := by cases x <;> rfl
@[simp] theorem State.setIndex_sp (s : State) (x : Index) (v : Word) : (s.setIndex x v).sp = s.sp := by cases x <;> rfl
@[simp] theorem State.setIndex_pc (s : State) (x : Index) (v : Word) : (s.setIndex x v).pc = s.pc := by cases x <;> rfl
@[simp] theorem State.setIndex_shadow (s : State) (x : Index) (v : Word) : (s.setIndex x v).shadow = s.shadow := by cases x <;> rfl
@[simp] theorem State.setIndex_halted (s : State) (x : Index) (v : Word) : (s.setIndex x v).halted = s.halted := by cases x <;> rfl
@[simp] theorem State.setIndex_mem (s : State) (x : Index) (v : Word) : (s.setIndex x v).mem = s.mem := by cases x <;> rfl
@[simp] theorem State.setIndex_trace (s : State) (x : Index) (v : Word) : (s.setIndex x v).trace = s.trace := by cases x <;> rfl

/-! ### hostWrite8 -/
@[simp] theorem State.hostWrite8_ix (s : State) (x : HostReg8) (v : Byte) : (s.hostWrite8 x v).ix = s.ix := by cases x <;> rfl
@[simp] theorem State.hostWrite8_iy (s : State) (x : HostReg8) (v : Byte) : (s.hostWrite8 x v).iy = s.iy := by cases x <;> rfl
@[simp] theorem State.hostWrite8_sp (s : State) (x : HostReg8) (v : Byte) : (s.hostWrite8 x v).sp = s.sp := by cases x <;> rfl
@[simp] theorem State.hostWrite8_pc (s : State) (x : HostReg8) (v : Byte) : (s.hostWrite8 x v).pc = s.pc := by cases x <;> rfl
@[simp] theorem State.hostWrite8_shadow (s : State) (x : HostReg8) (v : Byte) : (s.hostWrite8 x v).shadow = s.shadow := by cases x <;> rfl
@[simp] theorem State.hostWrite8_halted (s : State) (x : HostReg8) (v : Byte) : (s.hostWrite8 x v).halted = s.halted := by cases x <;> rfl
@[simp] theorem State.hostWrite8_mem (s : State) (x : HostReg8) (v : Byte) : (s.hostWrite8 x v).mem = s.mem := by cases x <;> rfl
@[simp] theorem State.hostWrite8_trace (s : State) (x : HostReg8) (v : Byte) : (s.hostWrite8 x v).trace = s.trace := by cases x <;> rfl

/-! ### hostWrite16 -/
@[simp] theorem State.hostWrite16_i (s : State) (x : HostReg16) (v : Word) : (s.hostWrite16 x v).i = s.i := by cases x <;> rfl
@[simp] theorem State.hostWrite16_r (s : State) (x : HostReg16) (v : Word) : (s.hostWrite16 x v).r = s.r := by cases x <;> rfl
@[simp] theorem State.hostWrite16_shadow (s : State) (x : HostReg16) (v : Word) : (s.hostWrite16 x v).shadow = s.shadow := by cases x <;> rfl
@[simp] theorem State.hostWrite16_halted (s : State) (x : HostReg16) (v : Word) : (s.hostWrite16 x v).halted = s.halted := by cases x <;> rfl
@[simp] theorem State.hostWrite16_mem (s : State) (x : HostReg16) (v : Word) : (s.hostWrite16 x v).mem = s.mem := by cases x <;> rfl
@[simp] theorem State.hostWrite16_trace (s : State) (x : HostReg16) (v : Word) : (s.hostWrite16 x v).trace = s.trace := by cases x <;> rfl

/-! ### hostAttach -/
@[simp] theorem State.hostAttach_a (s : State) (on : Bool) : (s.hostAttach on).a = s.a := rfl
@[simp] theorem State.hostAttach_f (s : State) (on : Bool) : (s.hostAttach on).f = s.f := rfl
@[simp] theorem State.hostAttach_b (s : State) (on : Bool) : (s.hostAttach on).b = s.b := rfl
@[simp] theorem State.hostAttach_c (s : State) (on : Bool) : (s.hostAttach on).c = s.c := rfl
@[simp] theorem State.hostAttach_d (s : State) (on : Bool) : (s.hostAttach on).d = s.d := rfl
@[simp] theorem State.hostAttach_e (s : State) (on : Bool) : (s.hostAttach on).e = s.e := rfl
@[simp] theorem State.hostAttach_h (s : State) (on : Bool) : (s.hostAttach on).h = s.h := rfl
@[simp] theorem State.hostAttach_l (s : State) (on : Bool) : (s.hostAttach on).l = s.l := rfl
@[simp] theorem State.hostAttach_i (s : State) (on : Bool) : (s.hostAttach on).i = s.i := rfl
@[simp] theorem State.hostAttach_r (s : State) (on : Bool) : (s.hostAttach on).r = s.r := rfl
@[simp] theorem State.hostAttach_ix (s : State) (on : Bool) : (s.hostAttach on).ix = s.ix := rfl
@[simp] theorem State.hostAttach_iy (s : State) (on : Bool) : (s.hostAttach on).iy = s.iy := rfl
@[simp] theorem State.hostAttach_sp (s : State) (on : Bool) : (s.hostAttach on).sp = s.sp := rfl
@[simp] theorem State.hostAttach_pc (s : State) (on : Bool) : (s.hostAttach on).pc = s.pc := rfl
@[simp] theorem State.hostAttach_shadow (s : State) (on : Bool) : (s.hostAttach on).shadow = s.shadow := rfl
@[simp] theorem State.hostAttach_halted (s : State) (on : Bool) : (s.hostAttach on).halted = s.halted := rfl
@[simp] theorem State.hostAttach_mem (s : State) (on : Bool) : (s.hostAttach on).mem = s.mem := rfl

/-! ### Two halves of a stack or fetch operation -/

theorem sub_one_sub_one (a : Word) : a - 1#16 - 1#16 = a - 2#16 := by bv_omega
theorem add_one_add_one (a : Word) : a + 1#16 + 1#16 = a + 2#16 := by bv_omega

@[simp] theorem State.push16_sp (s : State) (v : Word) : (s.push16 v).sp = s.sp - 2#16 :=
  sub_one_sub_one s.sp
@[simp] theorem State.push16_mem (s : State) (v : Word) :
    (s.push16 v).mem =
      Memory.set (Memory.set s.mem (s.sp - 1#16).toNat (highByte v)) (s.sp - 2#16).toNat (lowByte v) := by
  rw [← sub_one_sub_one]; rfl
@[simp] theorem State.pop16_sp (s : State) : s.pop16.2.sp = s.sp + 2#16 := add_one_add_one s.sp
@[simp] theorem State.fetch16_pc (s : State) : s.fetch16.2.pc = s.pc + 2#16 := add_one_add_one s.pc

/-! ### Reading an operand back -/

@[simp] theorem State.reg8_setReg8 (s : State) (x y : Reg8) (v : Byte) :
    (s.setReg8 x v).reg8 y = if y = x then v else s.reg8 y := by
  cases x <;> cases y <;> rfl

@[simp] theorem State.index_setIndex (s : State) (x y : Index) (v : Word) :
    (s.setIndex x v).index y = if y = x then v else s.index y := by
  cases x <;> cases y <;> rfl

/-! ### Reset (10_state.md R28) -/

@[simp] theorem State.hostReset_mem (s : State) : s.hostReset.mem = s.mem := rfl
@[simp] theorem State.hostReset_trace (s : State) : s.hostReset.trace = s.trace := rfl
@[simp] theorem State.hostReset_halted (s : State) : s.hostReset.halted = false := rfl
@[simp] theorem State.hostReset_shadow (s : State) : s.hostReset.shadow = ShadowBank.zero := rfl

end Sys2Proof.Machine
end

