-- ==== Sys2Proof/Laws/Fetch.lean ====
section
/-! SUPPORT. What fetching instruction-stream bytes does: PC and the trace move, nothing else
(40_step_dispatch.md R91 to R93). -/

namespace Sys2Proof.Machine

/-- The trace output after a list of bytes. -/
def TracePort.emitAll (p : TracePort) (bs : List Byte) : TracePort := bs.foldl TracePort.emit p

theorem TracePort.emitAll_emitted (p : TracePort) (bs : List Byte) :
    (p.emitAll bs).emitted = p.emitted ++ bs := by
  induction bs generalizing p with
  | nil => simp [TracePort.emitAll]
  | cons b bs ih =>
    have := ih (p.emit b)
    simpa [TracePort.emitAll, TracePort.emit] using this

/-- Everything `k` `Fetch8` change: PC, by `k`, and the trace. -/
theorem State.fetchN_eq (k : Nat) (s : State) :
    State.fetchN k s =
      { s with pc := (State.fetchN k s).pc, trace := (State.fetchN k s).trace } := by
  induction k generalizing s with
  | zero => rfl
  | succ k ih => rw [State.fetchN, ih s.fetch8.2]; rfl

theorem State.fetchN_pc (k : Nat) (s : State) : (State.fetchN k s).pc = s.pc + BitVec.ofNat 16 k := by
  induction k generalizing s with
  | zero => simp [State.fetchN]
  | succ k ih =>
    rw [State.fetchN, ih, State.fetch8_pc, BitVec.add_assoc, BitVec.ofNat_add,
      BitVec.add_comm (BitVec.ofNat 16 k)]

/-- The bytes `k` `Fetch8` return, in order. -/
def State.streamBytes : Nat → State → List Byte
  | 0, _ => []
  | k + 1, s => s.readByte s.pc :: State.streamBytes k s.fetch8.2

theorem State.fetchN_trace (k : Nat) (s : State) :
    (State.fetchN k s).trace = s.trace.emitAll (State.streamBytes k s) := by
  induction k generalizing s with
  | zero => rfl
  | succ k ih => rw [State.fetchN, ih]; rfl

@[simp] theorem State.fetchN_mem (k : Nat) (s : State) : (State.fetchN k s).mem = s.mem := by
  rw [State.fetchN_eq]
@[simp] theorem State.fetchN_halted (k : Nat) (s : State) : (State.fetchN k s).halted = s.halted := by
  rw [State.fetchN_eq]
@[simp] theorem State.fetchN_shadow (k : Nat) (s : State) : (State.fetchN k s).shadow = s.shadow := by
  rw [State.fetchN_eq]
@[simp] theorem State.fetchN_sp (k : Nat) (s : State) : (State.fetchN k s).sp = s.sp := by
  rw [State.fetchN_eq]
@[simp] theorem State.fetchN_f (k : Nat) (s : State) : (State.fetchN k s).f = s.f := by
  rw [State.fetchN_eq]
@[simp] theorem State.fetchN_i (k : Nat) (s : State) : (State.fetchN k s).i = s.i := by
  rw [State.fetchN_eq]
@[simp] theorem State.fetchN_r (k : Nat) (s : State) : (State.fetchN k s).r = s.r := by
  rw [State.fetchN_eq]
@[simp] theorem State.fetchN_ix (k : Nat) (s : State) : (State.fetchN k s).ix = s.ix := by
  rw [State.fetchN_eq]
@[simp] theorem State.fetchN_iy (k : Nat) (s : State) : (State.fetchN k s).iy = s.iy := by
  rw [State.fetchN_eq]
@[simp] theorem State.fetchN_reg8 (k : Nat) (s : State) (x : Reg8) :
    (State.fetchN k s).reg8 x = s.reg8 x := by
  rw [State.fetchN_eq]; cases x <;> rfl

/-- The byte at the `k`th place of the stream is the one at `PC + k`. -/
theorem State.streamByte_eq (s : State) (k : Nat) :
    s.streamByte k = s.readByte (s.pc + BitVec.ofNat 16 k) := by
  rw [State.streamByte, State.fetch8, State.readByte, State.readByte, State.fetchN_mem, State.fetchN_pc]

end Sys2Proof.Machine
end

