-- ==== Sys2Proof/Laws/Memory.lean ====
section
/-! SUPPORT. The memory: read after write, the canonical form and its preservation, words, launch images
(20_memory.md R41, R42, R55). -/

namespace Sys2Proof.Machine

theorem Memory.wfFrom_cons (lo k : Nat) (w : Byte) (rest : Memory) :
    Memory.wfFrom lo ((k, w) :: rest) = true ↔
      lo ≤ k ∧ k < Config.addressCount ∧ w ≠ Config.unlistedByte ∧ Memory.wfFrom (k + 1) rest = true := by
  simp [Memory.wfFrom, and_assoc]

theorem Memory.wfFrom_weaken {lo lo' : Nat} {m : Memory} (h : Memory.wfFrom lo m = true) (hle : lo' ≤ lo) :
    Memory.wfFrom lo' m = true := by
  cases m with
  | nil => rfl
  | cons p rest =>
    obtain ⟨k, w⟩ := p
    rw [Memory.wfFrom_cons] at h ⊢
    exact ⟨hle.trans h.1, h.2⟩

/-- Below its first address a canonical memory has no pair. -/
theorem Memory.get_below {lo a : Nat} {m : Memory} (h : Memory.wfFrom lo m = true) (ha : a < lo) :
    Memory.get m a = Config.unlistedByte := by
  cases m with
  | nil => rfl
  | cons p rest =>
    obtain ⟨k, w⟩ := p
    rw [Memory.wfFrom_cons] at h
    simp [Memory.get, lt_of_lt_of_le ha h.1]

theorem Memory.get_cell_append {lo a b : Nat} {v : Byte} {m : Memory} (h : Memory.wfFrom lo m = true)
    (ha : a < lo) : Memory.get (Memory.cell a v ++ m) b = if b = a then v else Memory.get m b := by
  by_cases hv : v = Config.unlistedByte
  · by_cases hb : b = a
    · subst hb; simp [Memory.cell, hv, Memory.get_below h ha]
    · simp [Memory.cell, hv, hb]
  · rcases lt_trichotomy b a with hb | hb | hb
    · have := Memory.get_below h (hb.trans ha)
      simp [Memory.cell, hv, Memory.get, hb, hb.ne, this]
    · simp [Memory.cell, hv, Memory.get, hb]
    · simp [Memory.cell, hv, Memory.get, hb.ne', Nat.not_lt_of_gt hb]

theorem Memory.wfFrom_cell_append {lo a : Nat} {v : Byte} {m : Memory}
    (h : Memory.wfFrom (a + 1) m = true) (hlo : lo ≤ a) (ha : a < Config.addressCount) :
    Memory.wfFrom lo (Memory.cell a v ++ m) = true := by
  by_cases hv : v = Config.unlistedByte
  · simpa [Memory.cell, hv] using Memory.wfFrom_weaken h (by omega)
  · simp only [Memory.cell, hv, if_false, List.singleton_append]
    rw [Memory.wfFrom_cons]
    exact ⟨hlo, ha, hv, h⟩

/-- A store keeps the canonical form. -/
theorem Memory.wfFrom_set {lo a : Nat} {v : Byte} {m : Memory} (h : Memory.wfFrom lo m = true)
    (hlo : lo ≤ a) (ha : a < Config.addressCount) : Memory.wfFrom lo (Memory.set m a v) = true := by
  induction m generalizing lo with
  | nil => simpa [Memory.set] using Memory.wfFrom_cell_append (v := v) (m := []) rfl hlo ha
  | cons p rest ih =>
    obtain ⟨k, w⟩ := p
    have hc := (Memory.wfFrom_cons lo k w rest).1 h
    unfold Memory.set
    split
    · exact Memory.wfFrom_cell_append
        ((Memory.wfFrom_cons _ _ _ _).2 ⟨by omega, hc.2⟩) hlo ha
    · split
      · rename_i heq
        subst heq
        exact Memory.wfFrom_cell_append hc.2.2.2 hlo ha
      · exact (Memory.wfFrom_cons _ _ _ _).2
          ⟨hc.1, hc.2.1, hc.2.2.1, ih hc.2.2.2 (by omega)⟩

/-- What a memory reads as after a store: the value at its address, as before everywhere else. -/
theorem Memory.get_set {lo a b : Nat} {v : Byte} {m : Memory} (h : Memory.wfFrom lo m = true)
    (hlo : lo ≤ a) : Memory.get (Memory.set m a v) b = if b = a then v else Memory.get m b := by
  induction m generalizing lo with
  | nil =>
    simpa [Memory.set] using
      Memory.get_cell_append (lo := a + 1) (a := a) (b := b) (v := v) (m := []) rfl (by omega)
  | cons p rest ih =>
    obtain ⟨k, w⟩ := p
    have hc := (Memory.wfFrom_cons lo k w rest).1 h
    unfold Memory.set
    split
    · rename_i hlt
      exact Memory.get_cell_append ((Memory.wfFrom_cons k k w rest).2 ⟨le_rfl, hc.2⟩) hlt
    · split
      · rename_i heq
        subst heq
        rw [Memory.get_cell_append hc.2.2.2 (by omega)]
        by_cases hb : b = a
        · simp [hb]
        · by_cases hlt : b < a
          · simp [Memory.get, hb, hlt, Memory.get_below hc.2.2.2 (hlt.trans (Nat.lt_succ_self a))]
          · simp [Memory.get, hb, hlt]
      · rename_i h1 h2
        have hih := ih hc.2.2.2 (by omega)
        by_cases hbk : b < k
        · have hba : b ≠ a := by omega
          simp [Memory.get, hbk, hba]
        · by_cases hbe : b = k
          · subst hbe
            have hba : b ≠ a := fun e => h2 e.symm
            simp [Memory.get, hba]
          · simp [Memory.get, hbk, hbe, hih]

/-- Address keys are below 65536. -/
theorem Memory.toNat_lt_addressCount (a : Word) : a.toNat < Config.addressCount := a.isLt

/-- A byte store keeps the canonical form. -/
theorem State.writeByte_wf {s : State} (h : Memory.wf s.mem = true) (a : Word) (v : Byte) :
    Memory.wf (s.writeByte a v).mem = true :=
  Memory.wfFrom_set h (Nat.zero_le _) (Memory.toNat_lt_addressCount a)

/-- A word store keeps the canonical form. -/
theorem State.writeWord_wf {s : State} (h : Memory.wf s.mem = true) (a v : Word) :
    Memory.wf (s.writeWord a v).mem = true :=
  State.writeByte_wf (State.writeByte_wf h _ _) _ _

/-- What a byte reads as after a byte store. -/
theorem State.readByte_writeByte {s : State} (h : Memory.wf s.mem = true) (a b : Word) (v : Byte) :
    (s.writeByte a v).readByte b = if b = a then v else s.readByte b := by
  have hg := Memory.get_set (b := b.toNat) (v := v) h (Nat.zero_le a.toNat)
  by_cases hb : b = a
  · simpa [State.readByte, State.writeByte, hb] using hg
  · have : b.toNat ≠ a.toNat := fun e => hb (BitVec.eq_of_toNat_eq e)
    simpa [State.readByte, State.writeByte, hb, this] using hg

/-- What a byte reads as after a word store. -/
theorem State.readByte_writeWord {s : State} (h : Memory.wf s.mem = true) (a b : Word) (v : Word) :
    (s.writeWord a v).readByte b =
      if b = a + 1#16 then highByte v else if b = a then lowByte v else s.readByte b := by
  rw [State.writeWord, State.readByte_writeByte (State.writeByte_wf h _ _), State.readByte_writeByte h]

/-- Images are canonical. -/
theorem Memory.ofImageUpTo_wf (img : Word → Byte) {n : Nat} (h : n ≤ Config.addressCount) :
    Memory.wf (Memory.ofImageUpTo img n) = true := by
  induction n with
  | zero => rfl
  | succ n ih => exact Memory.wfFrom_set (ih (by omega)) (Nat.zero_le _) (by omega)

/-- What a memory of an image reads as. -/
theorem Memory.get_ofImageUpTo (img : Word → Byte) (a : Nat) {n : Nat} (h : n ≤ Config.addressCount) :
    Memory.get (Memory.ofImageUpTo img n) a =
      if a < n then img (BitVec.ofNat 16 a) else Config.unlistedByte := by
  induction n with
  | zero => rfl
  | succ n ih =>
    rw [Memory.ofImageUpTo, Memory.get_set (Memory.ofImageUpTo_wf img (by omega)) (Nat.zero_le _),
      ih (by omega)]
    by_cases h1 : a = n
    · simp [h1]
    · by_cases h2 : a < n <;> simp [h1, h2] <;> omega

theorem Memory.ofImage_wf (img : Word → Byte) : Memory.wf (Memory.ofImage img) = true :=
  Memory.ofImageUpTo_wf img le_rfl

theorem Memory.get_ofImage (img : Word → Byte) (a : Word) :
    Memory.get (Memory.ofImage img) a.toNat = img a := by
  rw [Memory.ofImage, Memory.get_ofImageUpTo img _ le_rfl, if_pos (Memory.toNat_lt_addressCount a),
    BitVec.ofNat_toNat, BitVec.setWidth_eq]

/-- The fields at launch. Stated one by one, so that no proof evaluates the image. -/
@[simp] theorem State.powerOn_mem (img : Word → Byte) (att : Bool) :
    (State.powerOn img att).mem = Memory.ofImage img := by simp only [State.powerOn]
@[simp] theorem State.powerOn_pc (img : Word → Byte) (att : Bool) :
    (State.powerOn img att).pc = 0 := by simp only [State.powerOn, State.reset]
@[simp] theorem State.powerOn_halted (img : Word → Byte) (att : Bool) :
    (State.powerOn img att).halted = false := by simp only [State.powerOn, State.reset]
@[simp] theorem State.powerOn_shadow (img : Word → Byte) (att : Bool) :
    (State.powerOn img att).shadow = ShadowBank.zero := by simp only [State.powerOn, State.reset]
@[simp] theorem State.powerOn_trace (img : Word → Byte) (att : Bool) :
    (State.powerOn img att).trace = ⟨[], att, []⟩ := by simp only [State.powerOn]
@[simp] theorem State.powerOn_hostReset (img : Word → Byte) (att : Bool) :
    (State.powerOn img att).hostReset = State.powerOn img att := by
  simp only [State.hostReset, State.powerOn]

/-- The halves of `{h, l}` are `h` and `l`. -/
theorem highByte_word (h l : Byte) : highByte (word h l) = h := by
  apply BitVec.eq_of_getLsbD_eq
  intro i hi
  simp [highByte, word, hi, show 8 + i < 16 by omega]

theorem lowByte_word (h l : Byte) : lowByte (word h l) = l := by
  apply BitVec.eq_of_getLsbD_eq
  intro i hi
  simp [lowByte, word, hi, show i < 16 by omega]

/-- A word is its two halves. -/
theorem word_highByte_lowByte (v : Word) : word (highByte v) (lowByte v) = v := by
  apply BitVec.eq_of_getLsbD_eq
  intro i hi
  by_cases h : i < 8
  · simp [highByte, lowByte, word, h, hi]
  · have h1 : i - 8 < 8 := by omega
    have h2 : 8 + (i - 8) = i := by omega
    simp [highByte, lowByte, word, h, h1, h2, hi]

end Sys2Proof.Machine
end

