-- ==== Sys2Proof/Laws/Exec.lean ====
section
/-! SUPPORT. What the operations that the meanings share answer, and what a step that goes on has done. -/

namespace Sys2Proof.Machine

theorem loadReg_next {x : Reg8} {v : Byte} {s t : State} :
    loadReg x v s = .next t ↔ t = s.setReg8 x v := by
  simp [loadReg, eq_comm]

theorem storeByte_next {a : Word} {v : Byte} {s t : State} :
    storeByte a v s = .next t ↔ t = s.writeByte a v := by
  simp [storeByte, eq_comm]

theorem loadPair_next {p : Pair} {v : Word} {s t : State} :
    loadPair p v s = .next t ↔ t = s.setPair p v := by
  simp [loadPair, eq_comm]

theorem loadIndex_next {x : Index} {v : Word} {s t : State} :
    loadIndex x v s = .next t ↔ t = s.setIndex x v := by
  simp [loadIndex, eq_comm]

theorem storeWord_next {a v : Word} {s t : State} :
    storeWord a v s = .next t ↔ t = s.writeWord a v := by
  simp [storeWord, eq_comm]

theorem pushPair_next {p : StackPair} {s t : State} :
    pushPair p s = .next t ↔ t = s.push16 (s.stackPair p) := by
  simp [pushPair, eq_comm]

theorem pushIndex_next {x : Index} {s t : State} :
    pushIndex x s = .next t ↔ t = s.push16 (s.index x) := by
  simp [pushIndex, eq_comm]

theorem popPair_next {p : StackPair} {s t : State} :
    popPair p s = .next t ↔ t = s.pop16.2.setStackPair p s.pop16.1 := by
  simp [popPair, eq_comm]

theorem popIndex_next {x : Index} {s t : State} :
    popIndex x s = .next t ↔ t = s.pop16.2.setIndex x s.pop16.1 := by
  simp [popIndex, eq_comm]

/-- The exception never gives a next state. -/
theorem raiseUnknownOpcode_ne_next {p : Option Byte} {op : Byte} {s t : State} :
    raiseUnknownOpcode p op s ≠ .next t := by
  simp [raiseUnknownOpcode]

/-- `Push16` as two byte stores and a new SP. -/
theorem State.push16_eq (s : State) (v : Word) :
    s.push16 v =
      ((s.writeByte (s.sp - 1#16) (highByte v)).writeByte (s.sp - 2#16) (lowByte v)).setSP (s.sp - 2#16) := by
  rw [← sub_one_sub_one]; rfl

/-- `Pop16` as two byte reads and a new SP. -/
theorem State.pop16_eq (s : State) :
    s.pop16 = (word (s.readByte (s.sp + 1#16)) (s.readByte s.sp), s.setSP (s.sp + 2#16)) := by
  rw [← add_one_add_one]; rfl

/-- A push keeps the canonical form. -/
theorem State.push16_wf {s : State} (h : Memory.wf s.mem = true) (v : Word) :
    Memory.wf (s.push16 v).mem = true := by
  rw [State.push16_eq, State.setSP_mem]
  exact State.writeByte_wf (State.writeByte_wf h _ _) _ _

/-- What a byte reads as after a push. -/
theorem State.readByte_push16 {s : State} (h : Memory.wf s.mem = true) (v b : Word) :
    (s.push16 v).readByte b =
      if b = s.sp - 2#16 then lowByte v else if b = s.sp - 1#16 then highByte v else s.readByte b := by
  have h1 := State.readByte_writeByte (State.writeByte_wf h (s.sp - 1#16) (highByte v)) (s.sp - 2#16) b
    (lowByte v)
  rw [State.readByte_writeByte h] at h1
  rw [State.push16_eq]
  exact h1

/-- The effects that instructions have. -/
inductive Effect (s : State) : State → Prop
  | loadReg (x : Reg8) (v : Byte) : Effect s (s.setReg8 x v)
  | loadI (v : Byte) : Effect s (s.setI v)
  | loadR (v : Byte) : Effect s (s.setR v)
  | storeByte (a : Word) (v : Byte) : Effect s (s.writeByte a v)
  | loadPair (p : Pair) (v : Word) : Effect s (s.setPair p v)
  | loadIndex (x : Index) (v : Word) : Effect s (s.setIndex x v)
  | storeWord (a v : Word) : Effect s (s.writeWord a v)
  | push (v : Word) : Effect s (s.push16 v)
  | popPair (p : StackPair) : Effect s (s.pop16.2.setStackPair p s.pop16.1)
  | popIndex (x : Index) : Effect s (s.pop16.2.setIndex x s.pop16.1)
  | halt : Effect s { s with halted := true }

theorem Effect.keeps_wf {s t : State} (h : Effect s t) (hw : Memory.wf s.mem = true) :
    Memory.wf t.mem = true := by
  cases h with
  | storeByte a v => exact State.writeByte_wf hw a v
  | storeWord a v => exact State.writeWord_wf hw a v
  | push v => exact State.push16_wf hw v
  | _ => simpa using hw

theorem Effect.keeps_shadow {s t : State} (h : Effect s t) : t.shadow = s.shadow := by
  cases h <;> simp

theorem Effect.keeps_pc_and_trace {s t : State} (h : Effect s t) : t.pc = s.pc ∧ t.trace = s.trace := by
  cases h <;> simp

/-- Whatever a whole instruction answers is the next state of one of these effects. -/
theorem exec_effect {i : Instr} {s t : State} (hi : i.wellFormed = true) (h : exec i s = .next t) :
    Effect s t := by
  cases i
  case prefix_DD | prefix_FD | prefix_ED => exact absurd hi Bool.false_ne_true
  case ld_BC_nn | ld_DE_nn | ld_HL_nn | ld_HL_atNN | ld_SP_nn | ld_SP_HL | ld_SP_IX | ld_SP_IY |
      ld_BC_atNN | ld_DE_atNN | ld_HL_atNN_ED | ld_SP_atNN => cases h; exact .loadPair _ _
  case ld_atBC_A | ld_atDE_A | ld_atNN_A | ld_atHL_n | ld_atHL_B | ld_atHL_C | ld_atHL_D | ld_atHL_E
      | ld_atHL_H | ld_atHL_L | ld_atHL_A | ld_atIX_n | ld_atIX_B | ld_atIX_C | ld_atIX_D |
      ld_atIX_E | ld_atIX_H | ld_atIX_L | ld_atIX_A | ld_atIY_n | ld_atIY_B | ld_atIY_C | ld_atIY_D
      | ld_atIY_E | ld_atIY_H | ld_atIY_L | ld_atIY_A => cases h; exact .storeByte _ _
  case ld_B_n | ld_A_atBC | ld_C_n | ld_D_n | ld_A_atDE | ld_E_n | ld_H_n | ld_L_n | ld_A_atNN |
      ld_A_n | ld_B_B | ld_B_C | ld_B_D | ld_B_E | ld_B_H | ld_B_L | ld_B_atHL | ld_B_A | ld_C_B |
      ld_C_C | ld_C_D | ld_C_E | ld_C_H | ld_C_L | ld_C_atHL | ld_C_A | ld_D_B | ld_D_C | ld_D_D |
      ld_D_E | ld_D_H | ld_D_L | ld_D_atHL | ld_D_A | ld_E_B | ld_E_C | ld_E_D | ld_E_E | ld_E_H |
      ld_E_L | ld_E_atHL | ld_E_A | ld_H_B | ld_H_C | ld_H_D | ld_H_E | ld_H_H | ld_H_L | ld_H_atHL
      | ld_H_A | ld_L_B | ld_L_C | ld_L_D | ld_L_E | ld_L_H | ld_L_L | ld_L_atHL | ld_L_A | ld_A_B |
      ld_A_C | ld_A_D | ld_A_E | ld_A_H | ld_A_L | ld_A_atHL | ld_A_A | ld_B_atIX | ld_C_atIX |
      ld_D_atIX | ld_E_atIX | ld_H_atIX | ld_L_atIX | ld_A_atIX | ld_B_atIY | ld_C_atIY | ld_D_atIY
      | ld_E_atIY | ld_H_atIY | ld_L_atIY | ld_A_atIY | ld_A_I | ld_A_R => cases h; exact .loadReg _ _
  case ld_atNN_HL | ld_atNN_IX | ld_atNN_IY | ld_atNN_BC | ld_atNN_DE | ld_atNN_HL_ED | ld_atNN_SP => cases h; exact .storeWord _ _
  case halt => cases h; exact .halt
  case pop_BC | pop_DE | pop_HL | pop_AF => cases h; exact .popPair _
  case push_BC | push_DE | push_HL | push_AF | push_IX | push_IY => cases h; exact .push _
  case ld_IX_nn | ld_IX_atNN | ld_IY_nn | ld_IY_atNN => cases h; exact .loadIndex _ _
  case pop_IX | pop_IY => cases h; exact .popIndex _
  case ld_I_A => cases h; exact .loadI _
  case ld_R_A => cases h; exact .loadR _

/-- `LD HL,(nn)` is one instruction in two encodings, 2A and ED 6B (30_encoding.md R74). -/
theorem exec_ld_HL_atNN_ED (nn : Word) (s : State) : exec (.ld_HL_atNN_ED nn) s = exec (.ld_HL_atNN nn) s := rfl

/-- `LD (nn),HL` is one instruction in two encodings, 22 and ED 63 (30_encoding.md R74). -/
theorem exec_ld_atNN_HL_ED (nn : Word) (s : State) : exec (.ld_atNN_HL_ED nn) s = exec (.ld_atNN_HL nn) s := rfl

/-- What a step that goes on has done: it has decoded an instruction, fetched its bytes and run its
meaning. -/
theorem step_next_inv {s t : State} (h : step s = .next t) :
    ∃ i, s.decodeNext = .ok i ∧ exec i (State.fetchN i.length s) = .next t := by
  unfold step at h
  split at h
  · exact ⟨_, by assumption, h⟩
  · exact absurd h raiseUnknownOpcode_ne_next

end Sys2Proof.Machine
end

