-- ==== Sys2Proof/Laws/Slots.lean ====
section
/-! SUPPORT. What a slot of an opcode table holds (30_encoding.md R66 to R69), said once for every slot, and
the handler of a slot (40_step_dispatch.md R90) as the meaning of what the slot holds. -/

namespace Sys2Proof

/-- Every instruction that `sl` can hold is whole and is encoded as `pre` followed by its operand bytes;
a prefix slot stands at the byte of its prefix. -/
def Slot.EncodedAs (pre : List Byte) : Slot → Prop
  | .plain i => encode i = pre ∧ i.wellFormed = true
  | .withN k => ∀ n, encode (k n) = pre ++ [n] ∧ (k n).wellFormed = true
  | .withD k => ∀ d, encode (k d) = pre ++ [d] ∧ (k d).wellFormed = true
  | .withDN k => ∀ d n, encode (k d n) = pre ++ [d, n] ∧ (k d n).wellFormed = true
  | .withNN k => ∀ nn, encode (k nn) = pre ++ [lowByte nn, highByte nn] ∧ (k nn).wellFormed = true
  | .prefixed p => pre = [p.byte]
  | .unpopulated => True

/-- Whether a slot leads to another table. -/
def Slot.isPrefixed : Slot → Bool
  | .prefixed _ => true
  | _ => false

theorem byte_of_toNat {op : Byte} {k : Nat} (h : op.toNat = k) : op = BitVec.ofNat 8 k := by
  apply BitVec.eq_of_toNat_eq
  simp [← h]

theorem mainSlot_encodedAs (op : Byte) : (mainSlot op).EncodedAs [op] := by
  unfold mainSlot
  split <;>
    first
    | trivial
    | (rename_i h; obtain rfl := byte_of_toNat h
       first | exact ⟨rfl, rfl⟩ | exact fun _ => ⟨rfl, rfl⟩ | rfl)

theorem ddSlot_encodedAs (op : Byte) :
    (ddSlot op).EncodedAs [0xDD, op] ∧ (ddSlot op).isPrefixed = false := by
  unfold ddSlot
  split <;>
    first
    | exact ⟨trivial, rfl⟩
    | (rename_i h; obtain rfl := byte_of_toNat h
       first
       | exact ⟨⟨rfl, rfl⟩, rfl⟩
       | exact ⟨fun _ => ⟨rfl, rfl⟩, rfl⟩
       | exact ⟨fun _ _ => ⟨rfl, rfl⟩, rfl⟩)

theorem fdSlot_encodedAs (op : Byte) :
    (fdSlot op).EncodedAs [0xFD, op] ∧ (fdSlot op).isPrefixed = false := by
  unfold fdSlot
  split <;>
    first
    | exact ⟨trivial, rfl⟩
    | (rename_i h; obtain rfl := byte_of_toNat h
       first
       | exact ⟨⟨rfl, rfl⟩, rfl⟩
       | exact ⟨fun _ => ⟨rfl, rfl⟩, rfl⟩
       | exact ⟨fun _ _ => ⟨rfl, rfl⟩, rfl⟩)

theorem edSlot_encodedAs (op : Byte) :
    (edSlot op).EncodedAs [0xED, op] ∧ (edSlot op).isPrefixed = false := by
  unfold edSlot
  split <;>
    first
    | exact ⟨trivial, rfl⟩
    | (rename_i h; obtain rfl := byte_of_toNat h
       first | exact ⟨⟨rfl, rfl⟩, rfl⟩ | exact ⟨fun _ => ⟨rfl, rfl⟩, rfl⟩)

/-- The same of whichever table a prefix selects. -/
theorem Prefix.slot_encodedAs (p : Prefix) (op : Byte) :
    (p.slot op).EncodedAs [p.byte, op] ∧ (p.slot op).isPrefixed = false := by
  cases p
  · exact ddSlot_encodedAs op
  · exact fdSlot_encodedAs op
  · exact edSlot_encodedAs op

theorem mainSlot_prefixByte (p : Prefix) : mainSlot p.byte = .prefixed p := by cases p <;> rfl

/-- The instruction a slot holds with given operand bytes is whole, and its encoding is what stands
there. -/
theorem Slot.fill_some {pre : List Byte} {sl : Slot} (h : sl.EncodedAs pre) {x y : Byte} {i : Instr}
    (hf : sl.fill x y = some i) :
    i.wellFormed = true ∧ encode i = (pre ++ [x, y]).take (encode i).length := by
  cases sl <;> simp only [Slot.fill, Option.some.injEq, reduceCtorEq] at hf <;> subst hf
  · exact ⟨h.2, by rw [h.1]; simp⟩
  · exact ⟨(h x).2, by rw [(h x).1]; simp [List.take_append]⟩
  · exact ⟨(h x).2, by rw [(h x).1]; simp [List.take_append]⟩
  · exact ⟨(h x y).2, by rw [(h x y).1]; simp⟩
  · have hw := h (word y x)
    rw [Machine.lowByte_word, Machine.highByte_word] at hw
    exact ⟨hw.2, by rw [hw.1]; simp⟩

/-- A slot that leads to no other table and holds no instruction is unpopulated. -/
theorem Slot.fill_none {sl : Slot} {x y : Byte} (h : sl.isPrefixed = false) :
    sl.fill x y = none ↔ sl = .unpopulated := by
  cases sl <;> simp_all [Slot.fill, Slot.isPrefixed]

end Sys2Proof

namespace Sys2Proof.Machine

/-- What a handler does that is given `op`, after `n` bytes of the instruction have been fetched: it fetches
the operand bytes of what the slot holds and runs its meaning. -/
def runSlot (pfx : Option Byte) (n : Nat) (op : Byte) (sl : Slot) (s : State) : Result :=
  match sl.fill (s.streamByte 0) (s.streamByte 1) with
  | some i => exec i (State.fetchN (i.length - n) s)
  | none => raiseUnknownOpcode pfx op s

theorem ddHandler_eq (op : Byte) (s : State) : ddHandler op s = runSlot (some 0xDD) 2 op (ddSlot op) s := by
  unfold ddHandler
  split
  case h_22 =>
    have hu : ddSlot op = .unpopulated := by
      unfold ddSlot
      split <;> first | rfl | (exfalso; simp_all)
    rw [hu]; rfl
  all_goals (rename_i h; obtain rfl := byte_of_toNat h; rfl)

theorem fdHandler_eq (op : Byte) (s : State) : fdHandler op s = runSlot (some 0xFD) 2 op (fdSlot op) s := by
  unfold fdHandler
  split
  case h_22 =>
    have hu : fdSlot op = .unpopulated := by
      unfold fdSlot
      split <;> first | rfl | (exfalso; simp_all)
    rw [hu]; rfl
  all_goals (rename_i h; obtain rfl := byte_of_toNat h; rfl)

theorem edHandler_eq (op : Byte) (s : State) : edHandler op s = runSlot (some 0xED) 2 op (edSlot op) s := by
  unfold edHandler
  split
  case h_13 =>
    have hu : edSlot op = .unpopulated := by
      unfold edSlot
      split <;> first | rfl | (exfalso; simp_all)
    rw [hu]; rfl
  all_goals (rename_i h; obtain rfl := byte_of_toNat h; rfl)

/-- A prefix handler fetches one byte and runs that slot of its own table (R95 to R97). -/
theorem exec_prefixInstr (p : Prefix) (s : State) :
    exec p.instr s =
      runSlot (some p.byte) 2 (s.streamByte 0) (p.slot (s.streamByte 0)) s.fetch8.2 := by
  cases p
  · exact ddHandler_eq _ _
  · exact fdHandler_eq _ _
  · exact edHandler_eq _ _

/-- A handler of `main` runs its own slot. -/
theorem mainHandler_eq (op : Byte) (s : State) :
    mainHandler op s =
      match mainSlot op with
      | .prefixed p => exec p.instr s
      | sl => runSlot none 1 op sl s := by
  unfold mainHandler
  split
  case h_97 =>
    have hu : mainSlot op = .unpopulated := by
      unfold mainSlot
      split <;> first | rfl | (rename_i h; exact absurd h (by assumption))
    rw [hu]; rfl
  all_goals (rename_i h; obtain rfl := byte_of_toNat h; rfl)

end Sys2Proof.Machine
end

