-- ==== Sys2Proof/Machine/Flags.lean ====
section
/-! DEFINITION. The named flags of F (10_state.md R17, R18). No instruction computes, tests or writes a
single flag (R17): F changes only as a whole byte, by `POP AF`, by the host and by Reset. The accessor
here names the bits for a reader of F. -/

namespace Sys2Proof.Machine

/-- The six named flags (R17); bits 3 and 5 are reserved and stored like the others (R17). -/
inductive Flag
  | carry | addSubtract | parityOverflow | halfCarry | zero | sign
  deriving DecidableEq, Repr

/-- The bit of F a flag stands in (R18, 92_eei_decisions.md D7; log entry 10). -/
def Flag.bit : Flag → Nat
  | .carry => 0
  | .addSubtract => 1
  | .parityOverflow => 2
  | .halfCarry => 4
  | .zero => 6
  | .sign => 7

/-- The value of a named flag. -/
def State.flag (s : State) (x : Flag) : Bool := s.f.getLsbD x.bit

end Sys2Proof.Machine
end

