-- ==== Sys2Proof/Tests/Slice0.lean ====
section
/-! SUPPORT. Tests and witnesses. The expected results of the decode tests are the words of
30_encoding.md R61 and R66 to R69; those of the step tests are the rows of spec/95_test_vectors.md that their
names give. A theorem `witness_X` shows states and operands that meet the hypotheses of the obligation `X`. -/

open Sys2Proof Sys2Proof.Machine Sys2Proof.Claims

namespace Sys2Proof.Tests

/-! ### WellFormed and the decoder -/

/-- The three terms that are no whole instruction are refused (30_encoding.md R75). -/
theorem test_prefix_DD_is_not_wellFormed : Instr.wellFormed .prefix_DD = false := by decide
theorem test_prefix_FD_is_not_wellFormed : Instr.wellFormed .prefix_FD = false := by decide
theorem test_prefix_ED_is_not_wellFormed : Instr.wellFormed .prefix_ED = false := by decide
theorem test_halt_is_wellFormed : Instr.wellFormed .halt = true := by decide

/-- Whether each list of bytes decodes to the instruction beside it. -/
def allDecode (rows : List (List Byte × Instr)) : Bool :=
  rows.all fun row => decide (decodeBytes row.1 = .ok row.2)

/-- 30_encoding.md R66: words of table `main`. -/
theorem test_decode_main_1 :
    allDecode [
      ([0x01, 0x34, 0x12], .ld_BC_nn 0x1234),
      ([0x02], .ld_atBC_A),
      ([0x06, 0xA7], .ld_B_n 0xA7),
      ([0x0A], .ld_A_atBC),
      ([0x0E, 0xA7], .ld_C_n 0xA7),
      ([0x11, 0x34, 0x12], .ld_DE_nn 0x1234),
      ([0x12], .ld_atDE_A),
      ([0x16, 0xA7], .ld_D_n 0xA7),
      ([0x1A], .ld_A_atDE),
      ([0x1E, 0xA7], .ld_E_n 0xA7),
      ([0x21, 0x34, 0x12], .ld_HL_nn 0x1234),
      ([0x22, 0x34, 0x12], .ld_atNN_HL 0x1234),
      ([0x26, 0xA7], .ld_H_n 0xA7),
      ([0x2A, 0x34, 0x12], .ld_HL_atNN 0x1234),
      ([0x2E, 0xA7], .ld_L_n 0xA7),
      ([0x31, 0x34, 0x12], .ld_SP_nn 0x1234)] = true := by decide

/-- 30_encoding.md R66: words of table `main`. -/
theorem test_decode_main_2 :
    allDecode [
      ([0x32, 0x34, 0x12], .ld_atNN_A 0x1234),
      ([0x36, 0xA7], .ld_atHL_n 0xA7),
      ([0x3A, 0x34, 0x12], .ld_A_atNN 0x1234),
      ([0x3E, 0xA7], .ld_A_n 0xA7),
      ([0x40], .ld_B_B),
      ([0x41], .ld_B_C),
      ([0x42], .ld_B_D),
      ([0x43], .ld_B_E),
      ([0x44], .ld_B_H),
      ([0x45], .ld_B_L),
      ([0x46], .ld_B_atHL),
      ([0x47], .ld_B_A),
      ([0x48], .ld_C_B),
      ([0x49], .ld_C_C),
      ([0x4A], .ld_C_D),
      ([0x4B], .ld_C_E)] = true := by decide

/-- 30_encoding.md R66: words of table `main`. -/
theorem test_decode_main_3 :
    allDecode [
      ([0x4C], .ld_C_H),
      ([0x4D], .ld_C_L),
      ([0x4E], .ld_C_atHL),
      ([0x4F], .ld_C_A),
      ([0x50], .ld_D_B),
      ([0x51], .ld_D_C),
      ([0x52], .ld_D_D),
      ([0x53], .ld_D_E),
      ([0x54], .ld_D_H),
      ([0x55], .ld_D_L),
      ([0x56], .ld_D_atHL),
      ([0x57], .ld_D_A),
      ([0x58], .ld_E_B),
      ([0x59], .ld_E_C),
      ([0x5A], .ld_E_D),
      ([0x5B], .ld_E_E)] = true := by decide

/-- 30_encoding.md R66: words of table `main`. -/
theorem test_decode_main_4 :
    allDecode [
      ([0x5C], .ld_E_H),
      ([0x5D], .ld_E_L),
      ([0x5E], .ld_E_atHL),
      ([0x5F], .ld_E_A),
      ([0x60], .ld_H_B),
      ([0x61], .ld_H_C),
      ([0x62], .ld_H_D),
      ([0x63], .ld_H_E),
      ([0x64], .ld_H_H),
      ([0x65], .ld_H_L),
      ([0x66], .ld_H_atHL),
      ([0x67], .ld_H_A),
      ([0x68], .ld_L_B),
      ([0x69], .ld_L_C),
      ([0x6A], .ld_L_D),
      ([0x6B], .ld_L_E)] = true := by decide

/-- 30_encoding.md R66: words of table `main`. -/
theorem test_decode_main_5 :
    allDecode [
      ([0x6C], .ld_L_H),
      ([0x6D], .ld_L_L),
      ([0x6E], .ld_L_atHL),
      ([0x6F], .ld_L_A),
      ([0x70], .ld_atHL_B),
      ([0x71], .ld_atHL_C),
      ([0x72], .ld_atHL_D),
      ([0x73], .ld_atHL_E),
      ([0x74], .ld_atHL_H),
      ([0x75], .ld_atHL_L),
      ([0x76], .halt),
      ([0x77], .ld_atHL_A),
      ([0x78], .ld_A_B),
      ([0x79], .ld_A_C),
      ([0x7A], .ld_A_D),
      ([0x7B], .ld_A_E)] = true := by decide

/-- 30_encoding.md R66: words of table `main`. -/
theorem test_decode_main_6 :
    allDecode [
      ([0x7C], .ld_A_H),
      ([0x7D], .ld_A_L),
      ([0x7E], .ld_A_atHL),
      ([0x7F], .ld_A_A),
      ([0xC1], .pop_BC),
      ([0xC5], .push_BC),
      ([0xD1], .pop_DE),
      ([0xD5], .push_DE),
      ([0xE1], .pop_HL),
      ([0xE5], .push_HL),
      ([0xF1], .pop_AF),
      ([0xF5], .push_AF),
      ([0xF9], .ld_SP_HL)] = true := by decide

/-- 30_encoding.md R67: words of table `dd`, displacement 0xF1. -/
theorem test_decode_dd_1 :
    allDecode [
      ([0xDD, 0x21, 0x34, 0x12], .ld_IX_nn 0x1234),
      ([0xDD, 0x22, 0x34, 0x12], .ld_atNN_IX 0x1234),
      ([0xDD, 0x2A, 0x34, 0x12], .ld_IX_atNN 0x1234),
      ([0xDD, 0x36, 0xF1, 0xA7], .ld_atIX_n 0xF1 0xA7),
      ([0xDD, 0x46, 0xF1], .ld_B_atIX 0xF1),
      ([0xDD, 0x4E, 0xF1], .ld_C_atIX 0xF1),
      ([0xDD, 0x56, 0xF1], .ld_D_atIX 0xF1),
      ([0xDD, 0x5E, 0xF1], .ld_E_atIX 0xF1),
      ([0xDD, 0x66, 0xF1], .ld_H_atIX 0xF1),
      ([0xDD, 0x6E, 0xF1], .ld_L_atIX 0xF1),
      ([0xDD, 0x70, 0xF1], .ld_atIX_B 0xF1),
      ([0xDD, 0x71, 0xF1], .ld_atIX_C 0xF1),
      ([0xDD, 0x72, 0xF1], .ld_atIX_D 0xF1),
      ([0xDD, 0x73, 0xF1], .ld_atIX_E 0xF1),
      ([0xDD, 0x74, 0xF1], .ld_atIX_H 0xF1),
      ([0xDD, 0x75, 0xF1], .ld_atIX_L 0xF1)] = true := by decide

/-- 30_encoding.md R67: words of table `dd`, displacement 0xF1. -/
theorem test_decode_dd_2 :
    allDecode [
      ([0xDD, 0x77, 0xF1], .ld_atIX_A 0xF1),
      ([0xDD, 0x7E, 0xF1], .ld_A_atIX 0xF1),
      ([0xDD, 0xE1], .pop_IX),
      ([0xDD, 0xE5], .push_IX),
      ([0xDD, 0xF9], .ld_SP_IX)] = true := by decide

/-- 30_encoding.md R68: words of table `fd`, displacement 0xF1. -/
theorem test_decode_fd_1 :
    allDecode [
      ([0xFD, 0x21, 0x34, 0x12], .ld_IY_nn 0x1234),
      ([0xFD, 0x22, 0x34, 0x12], .ld_atNN_IY 0x1234),
      ([0xFD, 0x2A, 0x34, 0x12], .ld_IY_atNN 0x1234),
      ([0xFD, 0x36, 0xF1, 0xA7], .ld_atIY_n 0xF1 0xA7),
      ([0xFD, 0x46, 0xF1], .ld_B_atIY 0xF1),
      ([0xFD, 0x4E, 0xF1], .ld_C_atIY 0xF1),
      ([0xFD, 0x56, 0xF1], .ld_D_atIY 0xF1),
      ([0xFD, 0x5E, 0xF1], .ld_E_atIY 0xF1),
      ([0xFD, 0x66, 0xF1], .ld_H_atIY 0xF1),
      ([0xFD, 0x6E, 0xF1], .ld_L_atIY 0xF1),
      ([0xFD, 0x70, 0xF1], .ld_atIY_B 0xF1),
      ([0xFD, 0x71, 0xF1], .ld_atIY_C 0xF1),
      ([0xFD, 0x72, 0xF1], .ld_atIY_D 0xF1),
      ([0xFD, 0x73, 0xF1], .ld_atIY_E 0xF1),
      ([0xFD, 0x74, 0xF1], .ld_atIY_H 0xF1),
      ([0xFD, 0x75, 0xF1], .ld_atIY_L 0xF1)] = true := by decide

/-- 30_encoding.md R68: words of table `fd`, displacement 0xF1. -/
theorem test_decode_fd_2 :
    allDecode [
      ([0xFD, 0x77, 0xF1], .ld_atIY_A 0xF1),
      ([0xFD, 0x7E, 0xF1], .ld_A_atIY 0xF1),
      ([0xFD, 0xE1], .pop_IY),
      ([0xFD, 0xE5], .push_IY),
      ([0xFD, 0xF9], .ld_SP_IY)] = true := by decide

/-- 30_encoding.md R69: words of table `ed`. -/
theorem test_decode_ed_1 :
    allDecode [
      ([0xED, 0x43, 0x34, 0x12], .ld_atNN_BC 0x1234),
      ([0xED, 0x47], .ld_I_A),
      ([0xED, 0x4B, 0x34, 0x12], .ld_BC_atNN 0x1234),
      ([0xED, 0x4F], .ld_R_A),
      ([0xED, 0x53, 0x34, 0x12], .ld_atNN_DE 0x1234),
      ([0xED, 0x57], .ld_A_I),
      ([0xED, 0x5B, 0x34, 0x12], .ld_DE_atNN 0x1234),
      ([0xED, 0x5F], .ld_A_R),
      ([0xED, 0x63, 0x34, 0x12], .ld_atNN_HL_ED 0x1234),
      ([0xED, 0x6B, 0x34, 0x12], .ld_HL_atNN_ED 0x1234),
      ([0xED, 0x73, 0x34, 0x12], .ld_atNN_SP 0x1234),
      ([0xED, 0x7B, 0x34, 0x12], .ld_SP_atNN 0x1234)] = true := by decide

/-- 30_encoding.md R74: the two encodings of `LD HL,(nn)` and of `LD (nn),HL`, here for `nn` = 0x1234. -/
theorem test_decode_two_encodings :
    allDecode [
      ([0x2A, 0x34, 0x12], .ld_HL_atNN 0x1234),
      ([0xED, 0x6B, 0x34, 0x12], .ld_HL_atNN_ED 0x1234),
      ([0x22, 0x34, 0x12], .ld_atNN_HL 0x1234),
      ([0xED, 0x63, 0x34, 0x12], .ld_atNN_HL_ED 0x1234)] = true := by decide

/-- A prefix slot alone, where its table has no slot for the byte after it (R70, R71, R184). -/
theorem test_decode_prefix_slots :
    allDecode [
      ([0xDD, 0x00], .prefix_DD),
      ([0xDD, 0x76], .prefix_DD),
      ([0xDD, 0xDD, 0x21, 0x34], .prefix_DD),
      ([0xFD, 0xED], .prefix_FD),
      ([0xED, 0xB0], .prefix_ED)] = true := by decide

/-- Bytes with no slot in `main` are rejected by their number (R70): NOP, ADD A,B, CB, RET, EXX, DI. -/
theorem test_decode_rejects :
    [0x00#8, 0x80#8, 0xCB#8, 0xC9#8, 0xD9#8, 0xF3#8].all
      (fun b => decide (decodeBytes [b] = .unknownOpcode b)) = true := by decide

/-- Words as spec/opcode_table.json numbers them: one identifying byte, and two in fetch order (R75). -/
theorem test_decodeTableWord_one_byte : decodeTableWord 8 0x41 = some .ld_B_C := by decide
theorem test_decodeTableWord_prefixed : decodeTableWord 16 0xDD46 = some (.ld_B_atIX 0) := by decide
theorem test_decodeTableWord_first_byte_low : decodeTableWord 16 0x46DD = some (.ld_B_atIX 0) := by decide
theorem test_decodeTableWord_prefix_slot : decodeTableWord 8 0xED = some .prefix_ED := by decide
theorem test_decodeTableWord_rejects : decodeTableWord 8 0x00 = none := by decide

/-! ### Steps -/

/-- A list of bytes stored at `a` and on. -/
def placeBytes : List Byte → Word → State → State
  | [], _, s => s
  | b :: bs, a, s => placeBytes bs (a + 1) (s.writeByte a b)

/-- A list of bytes stored at the addresses named. -/
def placeCells : List (Word × Byte) → State → State
  | [], s => s
  | (a, v) :: rest, s => placeCells rest (s.writeByte a v)

/-- The start state of the vectors of spec/95_test_vectors.md: the reset state with PC at 0x0100. -/
def start : State := { State.reset with pc := 0x0100 }

/-- `n` steps, whether or not the engine is halted, up to the first fault. -/
def steps : Nat → State → Result
  | 0, s => .next s
  | n + 1, s =>
    match step s with
    | .next t => steps n t
    | .fault f => .fault f
    | .refused r => .refused r

/-- `n` steps from `s`, with `bytes` at PC and the cells `before` in memory, end in `t` with the memory of the
start overwritten by the cells `after`, and the trace `trace`. Every field of the state is compared. -/
def runsTo (n : Nat) (s t : State) (bytes trace : List Byte) (before after : List (Word × Byte)) : Bool :=
  match steps n (placeCells before (placeBytes bytes s.pc s)) with
  | .next u =>
    decide (u =
      { t with
        mem := (placeCells after (placeCells before (placeBytes bytes s.pc s))).mem
        trace := ⟨trace, false, []⟩ })
  | _ => false

/-- One step from `s`, with `bytes` at PC, raises `UnknownOpcode(p, op)` and delivers `t` with the memory as it
was and the trace `trace`. -/
def faultsTo (p : Option Byte) (op : Byte) (s t : State) (bytes trace : List Byte) : Bool :=
  match step (placeBytes bytes s.pc s) with
  | .fault f =>
    decide (f = .unknownOpcode p op
      { t with mem := (placeBytes bytes s.pc s).mem, trace := ⟨trace, false, []⟩ })
  | _ => false

/-- The instruction of a table word is the first that runs after reset: `PREFIX FD` finds the byte 0x00. -/
theorem test_withFetchWord_runs_ld_SP_IX :
    step (State.reset.withFetchWord 16 0xDDF9) =
      .next { State.reset.withFetchWord 16 0xDDF9 with pc := 2, trace := ⟨[0xDD, 0xF9], false, []⟩ } := by
  rfl
theorem test_withFetchWord_runs_prefix_FD :
    step (State.reset.withFetchWord 8 0xFD) =
      .fault (.unknownOpcode (some 0xFD) 0x00
        { State.reset.withFetchWord 8 0xFD with pc := 2, trace := ⟨[0xFD, 0x00], false, []⟩ }) := by
  rfl

/-- 10_state.md R18: the bits of F = 0xD7 are S, Z, H, P/V, N, C; of 0x28 none. -/
theorem test_flag_bits :
    [Flag.sign, .zero, .halfCarry, .parityOverflow, .addSubtract, .carry].all (fun x =>
      State.flag { State.reset with f := 0xD7 } x && !State.flag { State.reset with f := 0x28 } x) = true := by
  decide

/-- E1.1: `LD B,n`, R111. -/
theorem test_E1_1 :
    runsTo 1 start
      { start with b := 0xA7, pc := 0x0102 }
      [0x06, 0xA7] [0x06, 0xA7] [] [] = true := by decide

/-- L1: `LD B,C`, R110. -/
theorem test_L1 :
    runsTo 1 { start with a := 0x11, b := 0x22, c := 0x33, d := 0x44, e := 0x55, h := 0x66, l := 0x77 }
      { start with a := 0x11, b := 0x33, c := 0x33, d := 0x44, e := 0x55, h := 0x66, l := 0x77, pc := 0x0101 }
      [0x41] [0x41] [] [] = true := by decide

/-- L2: `LD H,L`, R110 (LD H,L: HL becomes 0x7777). -/
theorem test_L2 :
    runsTo 1 { start with a := 0x11, b := 0x22, c := 0x33, d := 0x44, e := 0x55, h := 0x66, l := 0x77 }
      { start with a := 0x11, b := 0x22, c := 0x33, d := 0x44, e := 0x55, h := 0x77, l := 0x77, pc := 0x0101 }
      [0x65] [0x65] [] [] = true := by decide

/-- L3: `LD L,H`, R110 (LD L,H: HL becomes 0x6666). -/
theorem test_L3 :
    runsTo 1 { start with a := 0x11, b := 0x22, c := 0x33, d := 0x44, e := 0x55, h := 0x66, l := 0x77 }
      { start with a := 0x11, b := 0x22, c := 0x33, d := 0x44, e := 0x55, h := 0x66, l := 0x66, pc := 0x0101 }
      [0x6C] [0x6C] [] [] = true := by decide

/-- L5: `LD C,A`, R110 (0x4F in main is LD C,A; ED 4F is LD R,A). -/
theorem test_L5 :
    runsTo 1 { start with a := 0x11, b := 0x22, c := 0x33, d := 0x44, e := 0x55, h := 0x66, l := 0x77 }
      { start with a := 0x11, b := 0x22, c := 0x11, d := 0x44, e := 0x55, h := 0x66, l := 0x77, pc := 0x0101 }
      [0x4F] [0x4F] [] [] = true := by decide

/-- L6: `LD D,A`, R110 (0x57 in main is LD D,A; ED 57 is LD A,I). -/
theorem test_L6 :
    runsTo 1 { start with a := 0x11, b := 0x22, c := 0x33, d := 0x44, e := 0x55, h := 0x66, l := 0x77 }
      { start with a := 0x11, b := 0x22, c := 0x33, d := 0x11, e := 0x55, h := 0x66, l := 0x77, pc := 0x0101 }
      [0x57] [0x57] [] [] = true := by decide

/-- L8: `LD H,n`, R111 (n = 0xFF; HL becomes 0xFF00). -/
theorem test_L8 :
    runsTo 1 start
      { start with h := 0xFF, pc := 0x0102 }
      [0x26, 0xFF] [0x26, 0xFF] [] [] = true := by decide

/-- L10: `LD H,(HL)`, R112 (LD H,(HL): read at old HL, then HL = 0x3000). -/
theorem test_L10 :
    runsTo 1 { start with h := 0x20, l := 0x00 }
      { start with h := 0x30, l := 0x00, pc := 0x0101 }
      [0x66] [0x66] [(0x2000, 0x30)] [] = true := by decide

/-- L11: `LD L,(HL)`, R112 (LD L,(HL): HL = 0x2034). -/
theorem test_L11 :
    runsTo 1 { start with h := 0x20, l := 0x00 }
      { start with h := 0x20, l := 0x34, pc := 0x0101 }
      [0x6E] [0x6E] [(0x2000, 0x34)] [] = true := by decide

/-- L12: `LD A,(HL)`, R112 (HL points at the instruction itself: A = 0x7E). -/
theorem test_L12 :
    runsTo 1 { start with h := 0x01, l := 0x00 }
      { start with h := 0x01, l := 0x00, a := 0x7E, pc := 0x0101 }
      [0x7E] [0x7E] [] [] = true := by decide

/-- L13: `LD A,(IX+d)`, R113, R99 (d = 0x80 = -128). -/
theorem test_L13 :
    runsTo 1 { start with ix := 0x3000 }
      { start with ix := 0x3000, a := 0xC3, pc := 0x0103 }
      [0xDD, 0x7E, 0x80] [0xDD, 0x7E, 0x80] [(0x2F80, 0xC3)] [] = true := by decide

/-- L14: `LD A,(IX+d)`, R113, R99 (d = 0x7F = +127). -/
theorem test_L14 :
    runsTo 1 { start with ix := 0x3000 }
      { start with ix := 0x3000, a := 0xC4, pc := 0x0103 }
      [0xDD, 0x7E, 0x7F] [0xDD, 0x7E, 0x7F] [(0x307F, 0xC4)] [] = true := by decide

/-- L17: `LD H,(IX+d)`, R113 (destination is H, not a half of IX; IX unchanged). -/
theorem test_L17 :
    runsTo 1 { start with ix := 0x3000, h := 0x99, l := 0x99 }
      { start with ix := 0x3000, h := 0x12, l := 0x99, pc := 0x0103 }
      [0xDD, 0x66, 0x01] [0xDD, 0x66, 0x01] [(0x3001, 0x12)] [] = true := by decide

/-- L18: `LD L,(IX+d)`, R113 (destination is L). -/
theorem test_L18 :
    runsTo 1 { start with ix := 0x3000, h := 0x99, l := 0x99 }
      { start with ix := 0x3000, h := 0x99, l := 0x12, pc := 0x0103 }
      [0xDD, 0x6E, 0x01] [0xDD, 0x6E, 0x01] [(0x3001, 0x12)] [] = true := by decide

/-- L20: `LD D,(IY+d)`, R114, R99 (0x0000 - 128 = 0xFF80). -/
theorem test_L20 :
    runsTo 1 { start with iy := 0x0000 }
      { start with iy := 0x0000, d := 0x77, pc := 0x0103 }
      [0xFD, 0x56, 0x80] [0xFD, 0x56, 0x80] [(0xFF80, 0x77)] [] = true := by decide

/-- L21: `LD E,(IY+d)`, R114, R99 (0xFFFF + 127 = 0x007E). -/
theorem test_L21 :
    runsTo 1 { start with iy := 0xFFFF }
      { start with iy := 0xFFFF, e := 0x78, pc := 0x0103 }
      [0xFD, 0x5E, 0x7F] [0xFD, 0x5E, 0x7F] [(0x007E, 0x78)] [] = true := by decide

/-- L22: `LD (HL),A`, R115. -/
theorem test_L22 :
    runsTo 1 { start with h := 0x20, l := 0x00, a := 0x42 }
      { start with h := 0x20, l := 0x00, a := 0x42, pc := 0x0101 }
      [0x77] [0x77] [] [(0x2000, 0x42)] = true := by decide

/-- L23: `LD (HL),H`, R115 (LD (HL),H stores 0x20). -/
theorem test_L23 :
    runsTo 1 { start with h := 0x20, l := 0x30 }
      { start with h := 0x20, l := 0x30, pc := 0x0101 }
      [0x74] [0x74] [] [(0x2030, 0x20)] = true := by decide

/-- L24: `LD (HL),L`, R115 (LD (HL),L stores 0x30). -/
theorem test_L24 :
    runsTo 1 { start with h := 0x20, l := 0x30 }
      { start with h := 0x20, l := 0x30, pc := 0x0101 }
      [0x75] [0x75] [] [(0x2030, 0x30)] = true := by decide

/-- L26: `LD (IX+d),C`, R116. -/
theorem test_L26 :
    runsTo 1 { start with ix := 0x1000, c := 0x77 }
      { start with ix := 0x1000, c := 0x77, pc := 0x0103 }
      [0xDD, 0x71, 0x08] [0xDD, 0x71, 0x08] [] [(0x1008, 0x77)] = true := by decide

/-- L27: `LD (IX+d),H`, R116 (stores H; d = -2). -/
theorem test_L27 :
    runsTo 1 { start with ix := 0x1000, h := 0xAB, l := 0xCD }
      { start with ix := 0x1000, h := 0xAB, l := 0xCD, pc := 0x0103 }
      [0xDD, 0x74, 0xFE] [0xDD, 0x74, 0xFE] [] [(0x0FFE, 0xAB)] = true := by decide

/-- L28: `LD (IY+d),A`, R117, R99. -/
theorem test_L28 :
    runsTo 1 { start with iy := 0x0005, a := 0x11 }
      { start with iy := 0x0005, a := 0x11, pc := 0x0103 }
      [0xFD, 0x77, 0xF1] [0xFD, 0x77, 0xF1] [] [(0xFFF6, 0x11)] = true := by decide

/-- L30: `LD (HL),n`, R118 (HL points at the operand byte: it is fetched as 0x5A, then rewritten with 0x5A). -/
theorem test_L30 :
    runsTo 1 { start with h := 0x01, l := 0x01 }
      { start with h := 0x01, l := 0x01, pc := 0x0102 }
      [0x36, 0x5A] [0x36, 0x5A] [] [(0x0101, 0x5A)] = true := by decide

/-- L31: `LD (IX+d),n`, R119 (d = -1 first, then n = 0x9C). -/
theorem test_L31 :
    runsTo 1 { start with ix := 0x4000 }
      { start with ix := 0x4000, pc := 0x0104 }
      [0xDD, 0x36, 0xFF, 0x9C] [0xDD, 0x36, 0xFF, 0x9C] [] [(0x3FFF, 0x9C)] = true := by decide

/-- L32: `LD (IX+d),n`, R119 (operands swapped: d = 0x9C = -100, n = 0xFF; shows the operand order). -/
theorem test_L32 :
    runsTo 1 { start with ix := 0x4000 }
      { start with ix := 0x4000, pc := 0x0104 }
      [0xDD, 0x36, 0x9C, 0xFF] [0xDD, 0x36, 0x9C, 0xFF] [] [(0x3F9C, 0xFF)] = true := by decide

/-- L33: `LD (IY+d),n`, R120, R99. -/
theorem test_L33 :
    runsTo 1 { start with iy := 0xFFFE }
      { start with iy := 0xFFFE, pc := 0x0104 }
      [0xFD, 0x36, 0x08, 0x01] [0xFD, 0x36, 0x08, 0x01] [] [(0x0006, 0x01)] = true := by decide

/-- L34: `LD A,(BC)`, R121. -/
theorem test_L34 :
    runsTo 1 { start with b := 0x12, c := 0x34 }
      { start with b := 0x12, c := 0x34, a := 0x56, pc := 0x0101 }
      [0x0A] [0x0A] [(0x1234, 0x56)] [] = true := by decide

/-- L35: `LD A,(DE)`, R122. -/
theorem test_L35 :
    runsTo 1 { start with d := 0x80, e := 0x00 }
      { start with d := 0x80, e := 0x00, a := 0x01, pc := 0x0101 }
      [0x1A] [0x1A] [(0x8000, 0x01)] [] = true := by decide

/-- L37: `LD A,(nn)`, R123. -/
theorem test_L37 :
    runsTo 1 start
      { start with a := 0x7B, pc := 0x0103 }
      [0x3A, 0xFF, 0xFF] [0x3A, 0xFF, 0xFF] [(0xFFFF, 0x7B)] [] = true := by decide

/-- L38: `LD (BC),A`, R124. -/
theorem test_L38 :
    runsTo 1 { start with b := 0x40, c := 0x00, a := 0xEE }
      { start with b := 0x40, c := 0x00, a := 0xEE, pc := 0x0101 }
      [0x02] [0x02] [] [(0x4000, 0xEE)] = true := by decide

/-- L39: `LD (DE),A`, R125. -/
theorem test_L39 :
    runsTo 1 { start with d := 0xFF, e := 0xFF, a := 0x10 }
      { start with d := 0xFF, e := 0xFF, a := 0x10, pc := 0x0101 }
      [0x12] [0x12] [] [(0xFFFF, 0x10)] = true := by decide

/-- L41: `LD (nn),A`, R126 (writes 0xFFFF only; 0x0000 keeps 0x33). -/
theorem test_L41 :
    runsTo 1 { start with a := 0x77 }
      { start with a := 0x77, pc := 0x0103 }
      [0x32, 0xFF, 0xFF] [0x32, 0xFF, 0xFF] [(0x0000, 0x33)] [(0xFFFF, 0x77)] = true := by decide

/-- L43: `LD A,I`, R127 (A = 0; F stays 0x00: no Z flag is set). -/
theorem test_L43 :
    runsTo 1 { start with i := 0x00, a := 0x55, f := 0x00 }
      { start with i := 0x00, a := 0x00, f := 0x00, pc := 0x0102 }
      [0xED, 0x57] [0xED, 0x57] [] [] = true := by decide

/-- L44: `LD A,R`, R128 (R is not advanced by the two fetches). -/
theorem test_L44 :
    runsTo 1 { start with r := 0x80, f := 0x01 }
      { start with r := 0x80, f := 0x01, a := 0x80, pc := 0x0102 }
      [0xED, 0x5F] [0xED, 0x5F] [] [] = true := by decide

/-- L45: `LD I,A`, R129. -/
theorem test_L45 :
    runsTo 1 { start with a := 0x12 }
      { start with a := 0x12, i := 0x12, pc := 0x0102 }
      [0xED, 0x47] [0xED, 0x47] [] [] = true := by decide

/-- L46: `LD R,A`, R130. -/
theorem test_L46 :
    runsTo 1 { start with a := 0xFF }
      { start with a := 0xFF, r := 0xFF, pc := 0x0102 }
      [0xED, 0x4F] [0xED, 0x4F] [] [] = true := by decide

/-- W1: `LD BC,nn`, R140. -/
theorem test_W1 :
    runsTo 1 start
      { start with b := 0x12, c := 0x34, pc := 0x0103 }
      [0x01, 0x34, 0x12] [0x01, 0x34, 0x12] [] [] = true := by decide

/-- W2: `LD DE,nn`, R140 (D = 0x00, E = 0xFF). -/
theorem test_W2 :
    runsTo 1 start
      { start with e := 0xFF, pc := 0x0103 }
      [0x11, 0xFF, 0x00] [0x11, 0xFF, 0x00] [] [] = true := by decide

/-- W4: `LD SP,nn`, R140. -/
theorem test_W4 :
    runsTo 1 start
      { start with sp := 0xFFFE, pc := 0x0103 }
      [0x31, 0xFE, 0xFF] [0x31, 0xFE, 0xFF] [] [] = true := by decide

/-- W5: `LD IX,nn`, R141 (HL unchanged). -/
theorem test_W5 :
    runsTo 1 { start with h := 0x55, l := 0x55 }
      { start with h := 0x55, l := 0x55, ix := 0xABCD, pc := 0x0104 }
      [0xDD, 0x21, 0xCD, 0xAB] [0xDD, 0x21, 0xCD, 0xAB] [] [] = true := by decide

/-- E6.2: `LD IY,nn`, R96, R142 (IX stays 0xAAAA). -/
theorem test_E6_2 :
    runsTo 1 { start with ix := 0xAAAA }
      { start with ix := 0xAAAA, iy := 0x1234, pc := 0x0104 }
      [0xFD, 0x21, 0x34, 0x12] [0xFD, 0x21, 0x34, 0x12] [] [] = true := by decide

/-- W8: `LD HL,(nn)`, R143, 20_memory.md R42 (word wraps: L from 0xFFFF, H from 0x0000). -/
theorem test_W8 :
    runsTo 1 start
      { start with h := 0xAB, l := 0xCD, pc := 0x0103 }
      [0x2A, 0xFF, 0xFF] [0x2A, 0xFF, 0xFF] [(0xFFFF, 0xCD), (0x0000, 0xAB)] [] = true := by decide

/-- W10: `LD BC,(nn)`, R144. -/
theorem test_W10 :
    runsTo 1 start
      { start with b := 0x12, c := 0x34, pc := 0x0104 }
      [0xED, 0x4B, 0x00, 0x20] [0xED, 0x4B, 0x00, 0x20] [(0x2000, 0x34), (0x2001, 0x12)] [] = true := by decide

/-- W11: `LD DE,(nn)`, R144. -/
theorem test_W11 :
    runsTo 1 start
      { start with d := 0x12, e := 0x34, pc := 0x0104 }
      [0xED, 0x5B, 0x00, 0x20] [0xED, 0x5B, 0x00, 0x20] [(0x2000, 0x34), (0x2001, 0x12)] [] = true := by decide

/-- W12: `LD HL,(nn)`, R144 (second encoding of LD HL,(nn)). -/
theorem test_W12 :
    runsTo 1 start
      { start with h := 0x12, l := 0x34, pc := 0x0104 }
      [0xED, 0x6B, 0x00, 0x20] [0xED, 0x6B, 0x00, 0x20] [(0x2000, 0x34), (0x2001, 0x12)] [] = true := by decide

/-- W13: `LD SP,(nn)`, R144. -/
theorem test_W13 :
    runsTo 1 start
      { start with sp := 0xFFFE, pc := 0x0104 }
      [0xED, 0x7B, 0x00, 0x20] [0xED, 0x7B, 0x00, 0x20] [(0x2000, 0xFE), (0x2001, 0xFF)] [] = true := by decide

/-- W14: `LD IX,(nn)`, R145. -/
theorem test_W14 :
    runsTo 1 start
      { start with ix := 0x5678, pc := 0x0104 }
      [0xDD, 0x2A, 0x00, 0x30] [0xDD, 0x2A, 0x00, 0x30] [(0x3000, 0x78), (0x3001, 0x56)] [] = true := by decide

/-- W15: `LD IY,(nn)`, R146. -/
theorem test_W15 :
    runsTo 1 start
      { start with iy := 0xABCD, pc := 0x0104 }
      [0xFD, 0x2A, 0xFF, 0xFF] [0xFD, 0x2A, 0xFF, 0xFF] [(0xFFFF, 0xCD), (0x0000, 0xAB)] [] = true := by decide

/-- W17: `LD (nn),HL`, R147, 20_memory.md R42 (word wraps). -/
theorem test_W17 :
    runsTo 1 { start with h := 0x44, l := 0x55 }
      { start with h := 0x44, l := 0x55, pc := 0x0103 }
      [0x22, 0xFF, 0xFF] [0x22, 0xFF, 0xFF] [] [(0xFFFF, 0x55), (0x0000, 0x44)] = true := by decide

/-- W18: `LD (nn),BC`, R148. -/
theorem test_W18 :
    runsTo 1 { start with b := 0x12, c := 0x34 }
      { start with b := 0x12, c := 0x34, pc := 0x0104 }
      [0xED, 0x43, 0x00, 0x40] [0xED, 0x43, 0x00, 0x40] [] [(0x4000, 0x34), (0x4001, 0x12)] = true := by decide

/-- W19: `LD (nn),DE`, R148. -/
theorem test_W19 :
    runsTo 1 { start with d := 0x56, e := 0x78 }
      { start with d := 0x56, e := 0x78, pc := 0x0104 }
      [0xED, 0x53, 0x00, 0x40] [0xED, 0x53, 0x00, 0x40] [] [(0x4000, 0x78), (0x4001, 0x56)] = true := by decide

/-- W20: `LD (nn),HL`, R148 (second encoding of LD (nn),HL). -/
theorem test_W20 :
    runsTo 1 { start with h := 0x9A, l := 0xBC }
      { start with h := 0x9A, l := 0xBC, pc := 0x0104 }
      [0xED, 0x63, 0x00, 0x40] [0xED, 0x63, 0x00, 0x40] [] [(0x4000, 0xBC), (0x4001, 0x9A)] = true := by decide

/-- W21: `LD (nn),SP`, R148 (SP unchanged). -/
theorem test_W21 :
    runsTo 1 { start with sp := 0xFFF0 }
      { start with sp := 0xFFF0, pc := 0x0104 }
      [0xED, 0x73, 0x00, 0x40] [0xED, 0x73, 0x00, 0x40] [] [(0x4000, 0xF0), (0x4001, 0xFF)] = true := by decide

/-- W22: `LD (nn),IX`, R149. -/
theorem test_W22 :
    runsTo 1 { start with ix := 0x1234 }
      { start with ix := 0x1234, pc := 0x0104 }
      [0xDD, 0x22, 0x00, 0x50] [0xDD, 0x22, 0x00, 0x50] [] [(0x5000, 0x34), (0x5001, 0x12)] = true := by decide

/-- W23: `LD (nn),IY`, R150. -/
theorem test_W23 :
    runsTo 1 { start with iy := 0xBEEF }
      { start with iy := 0xBEEF, pc := 0x0104 }
      [0xFD, 0x22, 0xFF, 0xFF] [0xFD, 0x22, 0xFF, 0xFF] [] [(0xFFFF, 0xEF), (0x0000, 0xBE)] = true := by decide

/-- W25: `LD SP,HL`, R151. -/
theorem test_W25 :
    runsTo 1 { start with h := 0x80, l := 0x00 }
      { start with h := 0x80, l := 0x00, sp := 0x8000, pc := 0x0101 }
      [0xF9] [0xF9] [] [] = true := by decide

/-- W26: `LD SP,IX`, R152. -/
theorem test_W26 :
    runsTo 1 { start with ix := 0x9000, h := 0x11, l := 0x11 }
      { start with ix := 0x9000, h := 0x11, l := 0x11, sp := 0x9000, pc := 0x0102 }
      [0xDD, 0xF9] [0xDD, 0xF9] [] [] = true := by decide

/-- S5: `LD SP,IY`, R96, R153. -/
theorem test_S5 :
    runsTo 1 { start with ix := 0x1111, iy := 0x2222, h := 0x33, l := 0x33 }
      { start with ix := 0x1111, iy := 0x2222, h := 0x33, l := 0x33, sp := 0x2222, pc := 0x0102 }
      [0xFD, 0xF9] [0xFD, 0xF9] [] [] = true := by decide

/-- K2: `PUSH DE`, R172. -/
theorem test_K2 :
    runsTo 1 { start with sp := 0x8000, d := 0x56, e := 0x78 }
      { start with sp := 0x7FFE, d := 0x56, e := 0x78, pc := 0x0101 }
      [0xD5] [0xD5] [] [(0x7FFF, 0x56), (0x7FFE, 0x78)] = true := by decide

/-- K3: `PUSH HL`, R172. -/
theorem test_K3 :
    runsTo 1 { start with sp := 0x8000, h := 0x9A, l := 0xBC }
      { start with sp := 0x7FFE, h := 0x9A, l := 0xBC, pc := 0x0101 }
      [0xE5] [0xE5] [] [(0x7FFF, 0x9A), (0x7FFE, 0xBC)] = true := by decide

/-- K4: `PUSH AF`, R172 (A at the higher address, all 8 bits of F at the lower). -/
theorem test_K4 :
    runsTo 1 { start with sp := 0x8000, a := 0x12, f := 0xFF }
      { start with sp := 0x7FFE, a := 0x12, f := 0xFF, pc := 0x0101 }
      [0xF5] [0xF5] [] [(0x7FFF, 0x12), (0x7FFE, 0xFF)] = true := by decide

/-- K5: `PUSH BC`, R172, R170 (SP = 0 after Reset: writes 0xFFFF, 0xFFFE). -/
theorem test_K5 :
    runsTo 1 { start with sp := 0x0000, b := 0x12, c := 0x34 }
      { start with sp := 0xFFFE, b := 0x12, c := 0x34, pc := 0x0101 }
      [0xC5] [0xC5] [] [(0xFFFF, 0x12), (0xFFFE, 0x34)] = true := by decide

/-- K6: `PUSH IX`, R173, R170 (high byte at 0x0000, low byte at 0xFFFF). -/
theorem test_K6 :
    runsTo 1 { start with sp := 0x0001, ix := 0xABCD }
      { start with sp := 0xFFFF, ix := 0xABCD, pc := 0x0102 }
      [0xDD, 0xE5] [0xDD, 0xE5] [] [(0x0000, 0xAB), (0xFFFF, 0xCD)] = true := by decide

/-- K7: `PUSH IY`, R174. -/
theorem test_K7 :
    runsTo 1 { start with sp := 0x0000, iy := 0x0102 }
      { start with sp := 0xFFFE, iy := 0x0102, pc := 0x0102 }
      [0xFD, 0xE5] [0xFD, 0xE5] [] [(0xFFFF, 0x01), (0xFFFE, 0x02)] = true := by decide

/-- K9: `POP BC`, R175, R171. -/
theorem test_K9 :
    runsTo 1 { start with sp := 0x7FFE }
      { start with sp := 0x8000, b := 0x12, c := 0x34, pc := 0x0101 }
      [0xC1] [0xC1] [(0x7FFE, 0x34), (0x7FFF, 0x12)] [] = true := by decide

/-- K10: `POP DE`, R175. -/
theorem test_K10 :
    runsTo 1 { start with sp := 0x7FFE }
      { start with sp := 0x8000, d := 0x12, e := 0x34, pc := 0x0101 }
      [0xD1] [0xD1] [(0x7FFE, 0x34), (0x7FFF, 0x12)] [] = true := by decide

/-- K11: `POP HL`, R175. -/
theorem test_K11 :
    runsTo 1 { start with sp := 0x7FFE }
      { start with sp := 0x8000, h := 0x12, l := 0x34, pc := 0x0101 }
      [0xE1] [0xE1] [(0x7FFE, 0x34), (0x7FFF, 0x12)] [] = true := by decide

/-- K13: `POP AF`, R175 (F = 0x28: only the two reserved bits set). -/
theorem test_K13 :
    runsTo 1 { start with sp := 0x7FFE, f := 0xD7 }
      { start with sp := 0x8000, f := 0x28, pc := 0x0101 }
      [0xF1] [0xF1] [(0x7FFE, 0x28), (0x7FFF, 0x00)] [] = true := by decide

/-- K14: `POP IX`, R176, R171 (pop wraps: SP ends 0x0001). -/
theorem test_K14 :
    runsTo 1 { start with sp := 0xFFFF }
      { start with sp := 0x0001, ix := 0x5678, pc := 0x0102 }
      [0xDD, 0xE1] [0xDD, 0xE1] [(0xFFFF, 0x78), (0x0000, 0x56)] [] = true := by decide

/-- K15: `POP IY`, R177. -/
theorem test_K15 :
    runsTo 1 { start with sp := 0x4000 }
      { start with sp := 0x4002, iy := 0xBEEF, pc := 0x0102 }
      [0xFD, 0xE1] [0xFD, 0xE1] [(0x4000, 0xEF), (0x4001, 0xBE)] [] = true := by decide

/-- H1: `HALT`, R180. -/
theorem test_H1 :
    runsTo 1 start
      { start with pc := 0x0101, halted := true }
      [0x76] [0x76] [] [] = true := by decide

/-- H2: `HALT`, R180, R181 (already Halted: only PC changes). -/
theorem test_H2 :
    runsTo 1 { start with halted := true }
      { start with halted := true, pc := 0x0101 }
      [0x76] [0x76] [] [] = true := by decide

/-- H3: `LD A,n`, R182 (Step in the Halted state executes normally; halted stays 1). -/
theorem test_H3 :
    runsTo 1 { start with halted := true }
      { start with halted := true, a := 0x09, pc := 0x0102 }
      [0x3E, 0x09] [0x3E, 0x09] [] [] = true := by decide

/-- S1: `LD IX,nn`, R91, R95, R141 (instruction straddles 0xFFFF/0x0000: bytes at FFFE, FFFF, 0000, 0001). -/
theorem test_S1 :
    runsTo 1 { start with pc := 0xFFFE }
      { start with pc := 0x0002, ix := 0x1234 }
      [0xDD, 0x21, 0x34, 0x12] [0xDD, 0x21, 0x34, 0x12] [] [] = true := by decide

/-- S2: `LD A,n`, R91, R111 (operand at 0x0000). -/
theorem test_S2 :
    runsTo 1 { start with pc := 0xFFFF }
      { start with pc := 0x0001, a := 0x42 }
      [0x3E, 0x42] [0x3E, 0x42] [] [] = true := by decide

/-- S4: `LD SP,(nn)`, R92, R144 (Fetch16 straddles: nn low at 0xFFFF, nn high at 0x0000, so nn = 0x0200). -/
theorem test_S4 :
    runsTo 1 { start with pc := 0xFFFD }
      { start with pc := 0x0001, sp := 0xABCD }
      [0xED, 0x7B, 0x00, 0x02] [0xED, 0x7B, 0x00, 0x02] [(0x0200, 0xCD), (0x0201, 0xAB)] [] = true := by decide

/-- X2: raises UnknownOpcode(none, 0xC3), R192, R193 (Z80 JP nn: one byte consumed, operands not fetched). -/
theorem test_X2 :
    faultsTo none 0xC3
      { start with a := 0x11, b := 0x22, sp := 0x8000, h := 0x12, l := 0x34 }
      { start with a := 0x11, b := 0x22, sp := 0x8000, h := 0x12, l := 0x34, pc := 0x0101 } [0xC3, 0x00, 0x10] [0xC3] = true := by decide

/-- X10: raises UnknownOpcode(0xDD, 0x41), R192 (on a Z80 this would run as LD B,C; here it faults). -/
theorem test_X10 :
    faultsTo (some 0xDD) 0x41
      { start with a := 0x11, b := 0x22, sp := 0x8000, h := 0x12, l := 0x34 }
      { start with a := 0x11, b := 0x22, sp := 0x8000, h := 0x12, l := 0x34, pc := 0x0102 } [0xDD, 0x41] [0xDD, 0x41] = true := by decide

/-- X11: raises UnknownOpcode(0xDD, 0xDD), R192, 30_encoding.md R71 (prefix after prefix). -/
theorem test_X11 :
    faultsTo (some 0xDD) 0xDD
      { start with a := 0x11, b := 0x22, sp := 0x8000, h := 0x12, l := 0x34 }
      { start with a := 0x11, b := 0x22, sp := 0x8000, h := 0x12, l := 0x34, pc := 0x0102 } [0xDD, 0xDD, 0x21, 0x34, 0x12] [0xDD, 0xDD] = true := by decide

/-- X14: raises UnknownOpcode(0xED, 0xB0), R192 (Z80 LDIR). -/
theorem test_X14 :
    faultsTo (some 0xED) 0xB0
      { start with a := 0x11, b := 0x22, sp := 0x8000, h := 0x12, l := 0x34 }
      { start with a := 0x11, b := 0x22, sp := 0x8000, h := 0x12, l := 0x34, pc := 0x0102 } [0xED, 0xB0] [0xED, 0xB0] = true := by decide

/-- X18: raises UnknownOpcode(0xDD, 0x00), R192, R193 (prefix at 0xFFFF, opcode at 0x0000: PC ends 0x0001). -/
theorem test_X18 :
    faultsTo (some 0xDD) 0x00
      { start with a := 0x11, b := 0x22, sp := 0x8000, h := 0x12, l := 0x34, pc := 0xFFFF }
      { start with a := 0x11, b := 0x22, sp := 0x8000, h := 0x12, l := 0x34, pc := 0x0001 } [0xDD, 0x00] [0xDD, 0x00] = true := by decide

/-- X19: raises UnknownOpcode(none, 0x00), R192, 44_halt.md R181 (fault in the Halted state: halted stays 1). -/
theorem test_X19 :
    faultsTo none 0x00
      { start with halted := true }
      { start with halted := true, pc := 0x0101 } [0x00] [0x00] = true := by decide

/-- Z1 of the vectors: Reset from a state with every register set. -/
theorem test_Z1 :
    ({ a := 0x12, f := 0xFF, b := 0x34, c := 0x56, d := 0x78, e := 0x9A, h := 0xBC, l := 0xDE, i := 0x0F, r := 0x7F,
       ix := 0x1111, iy := 0x2222, sp := 0x3333, pc := 0x4444, shadow := .zero, halted := true,
       mem := [(0, 0x76)], trace := ⟨[], false, []⟩ } : State).hostReset =
      { State.reset with mem := [(0, 0x76)] } := by
  decide

/-! ### Witnesses -/

/-- The start state with the bytes of `i` at PC. -/
def here (i : Instr) : State := placeBytes (encode i) start.pc start

/-- The state after a step. -/
def after (s : State) : State := stateAfter s (step s)

/-- Whether a step goes on, as a check. -/
def goesOn (s : State) : Bool :=
  match step s with
  | .next _ => true
  | _ => false

theorem next_of_check {s : State} (h : goesOn s = true) : step s = .next (after s) := by
  unfold goesOn at h
  unfold after
  split at h
  · rename_i t ht
    rw [ht]; rfl
  · exact absurd h Bool.false_ne_true

/-- Whether the bytes of `i` stand at PC, as a check. -/
def fetchesAtB (s : State) (i : Instr) : Bool :=
  (List.range i.length).all fun k =>
    decide (s.readByte (s.pc + BitVec.ofNat 16 k) = (encode i).getD k 0)

theorem fetchesAt_of_check {s : State} {i : Instr} (h : fetchesAtB s i = true) : FetchesAt s i := by
  intro k hk
  simpa using (List.all_eq_true.1 h) k (List.mem_range.2 hk)

/-- Whether each instruction has a state in which its bytes stand at PC. -/
def allHere (is : List Instr) : Bool := is.all fun i => fetchesAtB (here i) i

theorem witness_LdRegRegCopiesSource :
    FetchesAt (here (.ldRegReg .H .L)) (.ldRegReg .H .L) ∧ FetchesAt (here (.ldRegReg .A .A)) (.ldRegReg .A .A) :=
  ⟨fetchesAt_of_check (by decide), fetchesAt_of_check (by decide)⟩

theorem witness_LdRegImmLoadsImmediate : FetchesAt (here (.ldRegImm .A 0xFF)) (.ldRegImm .A 0xFF) :=
  fetchesAt_of_check (by decide)

theorem witness_LdRegAtHLLoadsByte : FetchesAt (here (.ldRegAtHL .H)) (.ldRegAtHL .H) :=
  fetchesAt_of_check (by decide)

theorem witness_LdRegAtIndexLoadsByte :
    FetchesAt (here (.ldRegAtIndex .IX .L 0x80)) (.ldRegAtIndex .IX .L 0x80) ∧
      FetchesAt (here (.ldRegAtIndex .IY .A 0x7F)) (.ldRegAtIndex .IY .A 0x7F) :=
  ⟨fetchesAt_of_check (by decide), fetchesAt_of_check (by decide)⟩

theorem witness_LdAtHLStoresByte :
    FetchesAt (here (.ldAtHLReg .L)) (.ldAtHLReg .L) ∧ FetchesAt (here (.ld_atHL_n 0xFF)) (.ld_atHL_n 0xFF) :=
  ⟨fetchesAt_of_check (by decide), fetchesAt_of_check (by decide)⟩

theorem witness_LdAtIndexStoresByte :
    FetchesAt (here (.ldAtIndexReg .IX .H 0x80)) (.ldAtIndexReg .IX .H 0x80) ∧
      FetchesAt (here (.ldAtIndexImm .IY 0xFF 0x7F)) (.ldAtIndexImm .IY 0xFF 0x7F) :=
  ⟨fetchesAt_of_check (by decide), fetchesAt_of_check (by decide)⟩

theorem witness_AccumulatorMemoryForms :
    ∀ i ∈ [Instr.ld_A_atBC, .ld_A_atDE, .ld_A_atNN 0xFFFF, .ld_atBC_A, .ld_atDE_A, .ld_atNN_A 0xFFFF],
      FetchesAt (here i) i := by
  intro i hi
  exact fetchesAt_of_check (List.all_eq_true.1 (show allHere _ = true by decide) i hi)

theorem witness_AccumulatorImpliedForms :
    ∀ i ∈ [Instr.ld_A_I, .ld_A_R, .ld_I_A, .ld_R_A], FetchesAt (here i) i := by
  intro i hi
  exact fetchesAt_of_check (List.all_eq_true.1 (show allHere _ = true by decide) i hi)

theorem witness_LdPairImmLoadsImmediate : FetchesAt (here (.ldPairImm .SP 0xFFFF)) (.ldPairImm .SP 0xFFFF) :=
  fetchesAt_of_check (by decide)

theorem witness_LdIndexImmLoadsImmediate :
    FetchesAt (here (.ld_IX_nn 0x1234)) (.ld_IX_nn 0x1234) ∧ FetchesAt (here (.ld_IY_nn 0xFFFF)) (.ld_IY_nn 0xFFFF) :=
  ⟨fetchesAt_of_check (by decide), fetchesAt_of_check (by decide)⟩

theorem witness_LdPairAtNNLoadsWord :
    ∀ i ∈ [Instr.ld_HL_atNN 0xFFFF, .ldPairAtNN .HL 0xFFFF, .ldPairAtNN .SP 0, .ldIndexAtNN .IX 0xFFFF,
      .ldIndexAtNN .IY 0], FetchesAt (here i) i := by
  intro i hi
  exact fetchesAt_of_check (List.all_eq_true.1 (show allHere _ = true by decide) i hi)

theorem witness_LdAtNNPairStoresWord :
    ∀ i ∈ [Instr.ld_atNN_HL 0xFFFF, .ldAtNNPair .HL 0xFFFF, .ldAtNNPair .SP 0, .ldAtNNIndex .IX 0xFFFF,
      .ldAtNNIndex .IY 0], FetchesAt (here i) i := by
  intro i hi
  exact fetchesAt_of_check (List.all_eq_true.1 (show allHere _ = true by decide) i hi)

theorem witness_LdSPCopiesPair :
    ∀ i ∈ [Instr.ld_SP_HL, .ldSPIndex .IX, .ldSPIndex .IY], FetchesAt (here i) i := by
  intro i hi
  exact fetchesAt_of_check (List.all_eq_true.1 (show allHere _ = true by decide) i hi)

theorem witness_PushInstructionsPush :
    ∀ i ∈ [Instr.push .AF, .push .BC, .pushIndex .IX, .pushIndex .IY], FetchesAt (here i) i := by
  intro i hi
  exact fetchesAt_of_check (List.all_eq_true.1 (show allHere _ = true by decide) i hi)

theorem witness_PopInstructionsPop :
    ∀ i ∈ [Instr.pop .AF, .pop .BC, .popIndex .IX, .popIndex .IY], FetchesAt (here i) i := by
  intro i hi
  exact fetchesAt_of_check (List.all_eq_true.1 (show allHere _ = true by decide) i hi)

/-- SP 0 and 1, where the stores wrap, and an address outside them. -/
theorem witness_Push16Layout :
    Memory.wf start.mem = true ∧
      (0x0000 : Word) ≠ start.sp - 1#16 ∧ (0x0000 : Word) ≠ start.sp - 2#16 ∧
      Memory.wf { start with sp := 1 }.mem = true := by decide

/-- The bytes of `i` and then of `j` at PC, SP at 0x8000. -/
def twoHere (i j : Instr) : State := placeBytes (encode i ++ encode j) 0x0100 { start with sp := 0x8000 }

/-- `PUSH BC; POP IX` (vector K16), and a push and a pop of each other kind. -/
theorem witness_PushThenPopRoundTrip :
    ∀ pq ∈ [((.inl .BC : StackPair ⊕ Index), (.inr .IX : StackPair ⊕ Index)), (.inl .AF, .inl .BC),
        (.inr .IX, .inl .AF), (.inr .IY, .inr .IX), (.inr .IX, .inr .IY)],
      ∃ s t u : State, Memory.wf s.mem = true ∧ FetchesAt s (pushOf pq.1) ∧ step s = .next t ∧
        FetchesAt t (popOf pq.2) ∧ step t = .next u := by
  intro pq hpq
  have hall := (List.all_eq_true (p := fun x : (StackPair ⊕ Index) × (StackPair ⊕ Index) =>
    let s := twoHere (pushOf x.1) (popOf x.2)
    Memory.wf s.mem && fetchesAtB s (pushOf x.1) && goesOn s && fetchesAtB (after s) (popOf x.2) &&
      goesOn (after s))).1 (by decide) pq hpq
  simp only [Bool.and_eq_true] at hall
  exact ⟨_, _, _, hall.1.1.1.1, fetchesAt_of_check hall.1.1.1.2, next_of_check hall.1.1.2,
    fetchesAt_of_check hall.1.2, next_of_check hall.2⟩

theorem witness_HaltSetsHaltedOnly :
    FetchesAt (here .halt) .halt ∧ { here .halt with halted := true }.halted = true ∧
      exec .halt (here .halt) = .next { here .halt with halted := true } :=
  ⟨fetchesAt_of_check (by decide), rfl, rfl⟩

/-- A HALT, another instruction, a fault, an action of the host. -/
theorem witness_HaltedTransitions :
    (step (here .halt) = .next (after (here .halt)) ∧ (here .halt).decodeNext = .ok .halt) ∧
      (step (here .ld_B_C) = .next (after (here .ld_B_C)) ∧ (here .ld_B_C).decodeNext ≠ .ok .halt) ∧
      step start = .fault (.unknownOpcode none 0 (after start)) ∧
      HostAction.setByte 0 1 ≠ .step ∧ HostAction.setByte 0 1 ≠ .reset := by
  refine ⟨⟨by rfl, by decide⟩, ⟨by rfl, by decide⟩, by rfl, by decide, by decide⟩

theorem witness_PrefixHandlersSelectTheirTable :
    ((here .push_IX).streamByte 0 = Prefix.DD.byte ∧ (here .push_IY).streamByte 0 = Prefix.FD.byte ∧
        (here .ld_A_I).streamByte 0 = Prefix.ED.byte) ∧
      (Prefix.DD.slot ((here .push_IX).fetch8.2.streamByte 0)).fill 0 0 = some .push_IX ∧
      (Prefix.ED.slot 0x00).fill 0 0 = none := by decide

/-- A fault in `main` and one in table `ed`. -/
theorem witness_FaultLeavesAllButPcAndTrace :
    step start = .fault (.unknownOpcode none 0 (after start)) ∧
      step (placeBytes [0xED, 0xB0] 0x0100 start) =
        .fault (.unknownOpcode (some 0xED) 0xB0 (after (placeBytes [0xED, 0xB0] 0x0100 start))) :=
  ⟨by rfl, by rfl⟩

theorem witness_EveryInstructionCompletes : Instr.wellFormed (.ld_atIX_n 0x80 0xFF) = true := by decide

/-- `DD FD` and `ED 76`. -/
theorem witness_PrefixChainsAndPrefixedHaltFault :
    ((placeBytes [0xDD, 0xFD] 0x0100 start).streamByte 0 = Prefix.DD.byte ∧
        (placeBytes [0xDD, 0xFD] 0x0100 start).streamByte 1 = Prefix.FD.byte) ∧
      (placeBytes [0xED, 0x76] 0x0100 start).streamByte 0 = Prefix.ED.byte ∧
        (placeBytes [0xED, 0x76] 0x0100 start).streamByte 1 = 0x76 := by decide

theorem witness_StepRunsDecodedInstruction : (here .ld_SP_IX).decodeNext = .ok .ld_SP_IX := by decide

/-- An instruction that straddles the end of memory. -/
theorem witness_BytesAtPcDecodeToTheirInstruction :
    Instr.wellFormed (.ld_IX_nn 0x1234) = true ∧
      FetchesAt (placeBytes (encode (.ld_IX_nn 0x1234)) 0xFFFE { start with pc := 0xFFFE }) (.ld_IX_nn 0x1234) :=
  ⟨rfl, fetchesAt_of_check (by decide)⟩

/-- With an observer and without one. -/
theorem witness_StepEmitsExactlyItsBytes :
    ((here .ld_SP_IX).decodeNext = .ok .ld_SP_IX ∧ step (here .ld_SP_IX) = .next (after (here .ld_SP_IX))) ∧
      ((here .push_IY).hostAttach true).decodeNext = .ok .push_IY ∧
      step ((here .push_IY).hostAttach true) = .next (after ((here .push_IY).hostAttach true)) :=
  ⟨⟨by decide, by rfl⟩, by decide, by rfl⟩

theorem witness_MeaningsLeavePcAndTrace :
    Instr.wellFormed .push_AF = true ∧ exec .push_AF start = .next (start.push16 start.af) := ⟨rfl, rfl⟩

/-- Displacements 0x7F and 0x80, where the two clauses meet. -/
theorem witness_IndexedAddressIsSignedSum :
    (0x7F : Byte).toNat ≤ 0x7F ∧ ¬ 0x80 ≤ (0x7F : Byte).toNat ∧ 0x80 ≤ (0x80 : Byte).toNat := by decide

/-- Each form of the register frame answers a next state. -/
theorem witness_Ld8RegisterFormsFrame :
    exec (.ldRegReg .H .L) start = .next (start.setReg8 .H start.l) ∧
      exec (.ldRegImm .A 1) start = .next (start.setReg8 .A 1) ∧
      exec (.ldRegAtHL .L) start = .next (start.setReg8 .L (start.readByte start.hl)) ∧
      exec (.ldRegAtIndex .IY .B 0x80) start =
        .next (start.setReg8 .B (start.readByte (start.indexed .IY 0x80))) ∧
      exec .ld_A_R start = .next (start.setReg8 .A start.r) ∧
      exec .ld_I_A start = .next (start.setI start.a) ∧
      exec .ld_R_A start = .next (start.setR start.a) := ⟨rfl, rfl, rfl, rfl, rfl, rfl, rfl⟩

theorem witness_Ld8StoreFormsFrame :
    Memory.wf start.mem = true ∧
      exec (.ldAtHLReg .H) start = .next (start.writeByte start.hl start.h) ∧
      exec (.ld_atHL_n 1) start = .next (start.writeByte start.hl 1) ∧
      exec (.ldAtIndexReg .IX .C 0x7F) start = .next (start.writeByte (start.indexed .IX 0x7F) start.c) ∧
      exec (.ldAtIndexImm .IY 0x80 1) start = .next (start.writeByte (start.indexed .IY 0x80) 1) ∧
      exec .ld_atBC_A start = .next (start.writeByte start.bc start.a) ∧
      exec .ld_atDE_A start = .next (start.writeByte start.de start.a) ∧
      exec (.ld_atNN_A 0xFFFF) start = .next (start.writeByte 0xFFFF start.a) :=
  ⟨rfl, rfl, rfl, rfl, rfl, rfl, rfl, rfl⟩

theorem witness_Ld16RegisterFormsFrame :
    exec (.ldPairImm .SP 1) start = .next (start.setPair .SP 1) ∧
      exec (.ldPairAtNN .HL 0xFFFF) start = .next (start.setPair .HL (start.readWord 0xFFFF)) ∧
      exec (.ld_HL_atNN 0) start = .next (start.setHL (start.readWord 0)) ∧
      exec (.ldIndexImm .IY 1) start = .next (start.setIndex .IY 1) ∧
      exec (.ldIndexAtNN .IX 0) start = .next (start.setIndex .IX (start.readWord 0)) ∧
      exec .ld_SP_HL start = .next (start.setSP start.hl) ∧
      exec (.ldSPIndex .IX) start = .next (start.setSP start.ix) := ⟨rfl, rfl, rfl, rfl, rfl, rfl, rfl⟩

theorem witness_Ld16StoreFormsFrame :
    Memory.wf start.mem = true ∧
      exec (.ld_atNN_HL 0xFFFF) start = .next (start.writeWord 0xFFFF start.hl) ∧
      exec (.ldAtNNPair .SP 0xFFFF) start = .next (start.writeWord 0xFFFF start.sp) ∧
      exec (.ldAtNNIndex .IX 0) start = .next (start.writeWord 0 start.ix) := ⟨rfl, rfl, rfl, rfl⟩

theorem witness_StackInstructionsFrame :
    Memory.wf start.mem = true ∧
      exec (.push .AF) start = .next (start.push16 start.af) ∧
      exec (.pushIndex .IY) start = .next (start.push16 start.iy) ∧
      exec (.pop .AF) start = .next (start.pop16.2.setAF start.pop16.1) ∧
      exec (.popIndex .IX) start = .next (start.pop16.2.setIndex .IX start.pop16.1) := ⟨rfl, rfl, rfl, rfl, rfl⟩

/-- `POP AF` over a byte 0xF1 at SP; `PUSH AF`. -/
theorem witness_FlagsChangeOnlyByPopAF :
    (step { here .pop_AF with sp := 0x0100 } = .next (after { here .pop_AF with sp := 0x0100 }) ∧
        (after { here .pop_AF with sp := 0x0100 }).f ≠ { here .pop_AF with sp := 0x0100 }.f ∧
        State.decodeNext { here .pop_AF with sp := 0x0100 } = .ok .pop_AF) ∧
      Memory.wf start.mem = true ∧ exec .push_AF start = .next (start.push16 start.af) :=
  ⟨⟨by rfl, by decide, by decide⟩, rfl, rfl⟩

/-- A push, a pop, a load of SP, and an instruction that is none of these. -/
theorem witness_SPChangesOnlyByItsInstructions :
    ((here .push_IX).decodeNext = .ok .push_IX ∧ isPush .push_IX = true ∧
        step (here .push_IX) = .next (after (here .push_IX))) ∧
      ((here .pop_BC).decodeNext = .ok .pop_BC ∧ isPop .pop_BC = true ∧
        step (here .pop_BC) = .next (after (here .pop_BC))) ∧
      (here (.ld_A_n 1)).decodeNext = .ok (.ld_A_n 1) ∧ isPush (.ld_A_n 1) = false ∧
        isPop (.ld_A_n 1) = false ∧ loadsSP (.ld_A_n 1) = false ∧
        step (here (.ld_A_n 1)) = .next (after (here (.ld_A_n 1))) :=
  ⟨⟨by decide, rfl, by rfl⟩, ⟨by decide, rfl, by rfl⟩, by decide, rfl, rfl, rfl, by rfl⟩

theorem witness_IAndRArePlainStorage :
    (step { here .ld_I_A with a := 1 } = .next (after { here .ld_I_A with a := 1 }) ∧
        (after { here .ld_I_A with a := 1 }).i ≠ (here .ld_I_A).i) ∧
      step { here .ld_R_A with a := 0xFF } = .next (after { here .ld_R_A with a := 0xFF }) ∧
        (after { here .ld_R_A with a := 0xFF }).r ≠ (here .ld_R_A).r :=
  ⟨⟨by rfl, by decide⟩, by rfl, by decide⟩

theorem witness_IXAndIYAreIndependent :
    (step (here (.ld_IX_nn 1)) = .next (after (here (.ld_IX_nn 1))) ∧
        (after (here (.ld_IX_nn 1))).ix ≠ (here (.ld_IX_nn 1)).ix) ∧
      step (here .pop_IY) = .next (after (here .pop_IY)) ∧
        (after { here .pop_IY with sp := 0x0100 }).iy ≠ { here .pop_IY with sp := 0x0100 }.iy ∧
        step { here .pop_IY with sp := 0x0100 } = .next (after { here .pop_IY with sp := 0x0100 }) :=
  ⟨⟨by rfl, by decide⟩, by rfl, by decide, by rfl⟩

theorem witness_ShadowBankIsInert :
    step (here .ld_B_C) = .next (after (here .ld_B_C)) ∧ HostAction.step ≠ .reset := ⟨by rfl, by decide⟩

/-- Whether a step from the state with `i` at PC goes on and the address `a` is the `k`th of the stream after
it, as a check. -/
def storeReaches (s : State) (i : Instr) (a : Word) (k : Nat) : Bool :=
  Memory.wf s.mem && fetchesAtB s i && goesOn s && decide ((after s).pc + BitVec.ofNat 16 k = a)

theorem store_of_check {s : State} {i : Instr} {a : Word} {k : Nat} (h : storeReaches s i a k = true) :
    Memory.wf s.mem = true ∧ FetchesAt s i ∧ step s = .next (after s) ∧
      (after s).pc + BitVec.ofNat 16 k = a := by
  simp only [storeReaches, Bool.and_eq_true, decide_eq_true_eq] at h
  exact ⟨h.1.1.1, fetchesAt_of_check h.1.1.2, next_of_check h.1.2, h.2⟩

/-- The rows (state, instruction, address stored to, place in the stream after it), one for each clause: the
store reaches the byte right after the instruction, a word or push also the one after that. -/
def storeRows : List (State × Instr × Word × Nat) := [
  ({ here (.ldAtHLReg .B) with h := 0x01, l := 0x01 }, .ldAtHLReg .B, 0x0101, 0),
  ({ here (.ld_atHL_n 0x76) with h := 0x01, l := 0x02 }, .ld_atHL_n 0x76, 0x0102, 0),
  ({ here (.ldAtIndexReg .IX .A 0x80) with ix := 0x0183 }, .ldAtIndexReg .IX .A 0x80, 0x0103, 0),
  ({ here (.ldAtIndexImm .IY 0x7F 0x76) with iy := 0x0085 }, .ldAtIndexImm .IY 0x7F 0x76, 0x0104, 0),
  ({ here .ld_atBC_A with b := 0x01, c := 0x01 }, .ld_atBC_A, 0x0101, 0),
  ({ here .ld_atDE_A with d := 0x01, e := 0x01 }, .ld_atDE_A, 0x0101, 0),
  (here (.ld_atNN_A 0x0103), .ld_atNN_A 0x0103, 0x0103, 0),
  (here (.ld_atNN_HL 0x0103), .ld_atNN_HL 0x0103, 0x0104, 1),
  (here (.ldAtNNPair .HL 0x0104), .ldAtNNPair .HL 0x0104, 0x0104, 0),
  (here (.ldAtNNIndex .IX 0x0104), .ldAtNNIndex .IX 0x0104, 0x0105, 1),
  ({ here (.push .AF) with sp := 0x0103 }, .push .AF, 0x0101, 0),
  ({ here (.pushIndex .IY) with sp := 0x0104 }, .pushIndex .IY, 0x0103, 1)]

theorem witness_StoresAreSeenByTheNextStep :
    ∀ row ∈ storeRows, Memory.wf row.1.mem = true ∧ FetchesAt row.1 row.2.1 ∧
      step row.1 = .next (after row.1) ∧
      (after row.1).pc + BitVec.ofNat 16 row.2.2.2 = row.2.2.1 := by
  intro row hrow
  exact store_of_check
    ((List.all_eq_true (p := fun x => storeReaches x.1 x.2.1 x.2.2.1 x.2.2.2)).1 (by decide) row hrow)

/-- Halted at launch; an ordinary step; a HALT; a fault; a run of each end, the normal and the faulting one
after a first step that is neither. -/
theorem witness_RunsEndAtHaltOrFault :
    { start with halted := true }.halted = true ∧
      ((here .ld_B_C).halted = false ∧ step (here .ld_B_C) = .next (after (here .ld_B_C))) ∧
      ((here .halt).halted = false ∧ (here .halt).decodeNext = .ok .halt ∧
        step (here .halt) = .next (after (here .halt))) ∧
      (start.halted = false ∧ step start = .fault (.unknownOpcode none 0 (after start))) ∧
      (runUntilHalt 2 (twoHere .ld_B_C .halt) = .halted (after (after (twoHere .ld_B_C .halt))) ∧
        ∀ t, RunEnd.halted (after (after (twoHere .ld_B_C .halt))) ≠ .unfinished t) ∧
      runUntilHalt 1 (here .ld_B_C) = .unfinished (after (here .ld_B_C)) ∧
      runUntilHalt 2 (here .ld_B_C) = .faulted none 0 (after (after (here .ld_B_C))) :=
  ⟨rfl, ⟨by decide, by rfl⟩, ⟨by decide, by decide, by rfl⟩, ⟨rfl, by rfl⟩, ⟨by rfl, by simp⟩, by rfl, by rfl⟩

theorem witness_ByteStoreReadsBack :
    Memory.wf (start.writeByte 0xFFFF 1).mem = true ∧ (0 : Word) ≠ 0xFFFF := by decide

theorem witness_WordsAreLittleEndian :
    Memory.wf start.mem = true ∧ (5 : Word) ≠ 0xFFFF ∧ (5 : Word) ≠ 0xFFFF + 1#16 := by decide

/-- Two memories that read alike at every address: a byte written and overwritten with 0x00, and none. -/
theorem witness_CanonicalMemoryIsUnique :
    Memory.wf start.mem = true ∧ Memory.wf ((start.writeByte 5 7).writeByte 5 0).mem = true ∧
      ∀ a, start.readByte a = ((start.writeByte 5 7).writeByte 5 0).readByte a := by
  refine ⟨rfl, rfl, fun a => ?_⟩
  rw [show ((start.writeByte 5 7).writeByte 5 0) = start from rfl]

theorem witness_HostWritesHaveNoSideEffect : HostReg16.PC ∈ [HostReg16.SP, .PC, .IX, .IY] := by decide

theorem witness_ResetZeroesEveryRegister :
    { start with halted := true }.halted = true ∧
      (hostAct .reset { start with halted := true }).halted = false := ⟨rfl, rfl⟩

theorem witness_ResetStateMeetsInvariant : State.reset.Inv := ⟨rfl, rfl⟩

/-- A step that goes on and one that faults, from states with the invariant. -/
theorem witness_StepKeepsInvariant :
    ((here .push_AF).Inv ∧ step (here .push_AF) = .next (after (here .push_AF))) ∧
      start.Inv ∧ step start = .fault (.unknownOpcode none 0 (after start)) :=
  ⟨⟨⟨by decide, rfl⟩, by rfl⟩, ⟨rfl, rfl⟩, by rfl⟩

/-- A host write, a Reset and a step that faults, from states with the invariant. -/
theorem witness_HostActionsKeepInvariant :
    start.Inv ∧ hostAct (.setWord 0xFFFF 0x1234) start = start.writeWord 0xFFFF 0x1234 ∧
      hostAct .reset start = State.reset ∧
      hostAct .step start = { start with pc := 0x0101, trace := ⟨[0x00], false, []⟩ } :=
  ⟨⟨rfl, rfl⟩, rfl, rfl, by rfl⟩

theorem witness_DecodeOfEncodeIsIdentity : Instr.wellFormed (.ld_atIY_n 0x80 0xFF) = true := by decide

theorem witness_DecodeAnswersOnlyWhatStandsThere :
    decode 0xDD 0x36 0xFF 0x9C = .ok (.ld_atIX_n 0xFF 0x9C) ∧
      decode 0xFD 0xFD 0x00 0x00 = .ok Prefix.FD.instr ∧
      decode 0xCB 0x00 0x00 0x00 = .unknownOpcode 0xCB := by decide


end Sys2Proof.Tests
end

/-! # The family 10_state: registers, the host, and the invariant -/

section
/-! What a step can do, said once: it runs a whole instruction after fetching its bytes, or it faults after
fetching one or two. Every statement below about a step is a case analysis on this. -/

namespace Sys2Proof

/-- The decoder answers a whole instruction, or a PFX slot before a byte that its table has no slot for
(30_encoding.md R75; log entry 4). -/
theorem decode_ok_cases {b0 b1 b2 b3 : Byte} {i : Instr} (h : decode b0 b1 b2 b3 = .ok i) :
    i.wellFormed = true ∨ ∃ p : Prefix, i = p.instr ∧ p.slot b1 = .unpopulated := by
  unfold decode at h
  split at h
  next p _ =>
    obtain ⟨hslot, hpfx⟩ := p.slot_encodedAs b1
    cases hf : (p.slot b1).fill b2 b3 with
    | some j =>
      rw [hf] at h
      cases h
      exact .inl (Slot.fill_some hslot hf).1
    | none =>
      rw [hf] at h
      cases h
      exact .inr ⟨p, rfl, (Slot.fill_none hpfx).1 hf⟩
  next =>
    split at h
    next j hf =>
      cases h
      exact .inl (Slot.fill_some (mainSlot_encodedAs b0) hf).1
    next => cases h

end Sys2Proof

namespace Sys2Proof.Machine

/-- A whole instruction completes in every state (40_step_dispatch.md R103). -/
theorem exec_completes {i : Instr} (hi : i.wellFormed = true) (s : State) : ∃ t, exec i s = .next t := by
  cases i
  case prefix_DD | prefix_FD | prefix_ED => exact absurd hi Bool.false_ne_true
  all_goals exact ⟨_, rfl⟩

/-- A byte DD, FD or ED before a byte that its table has no slot for: the step faults after both fetches. -/
theorem step_of_unpopulated_after_prefix {s : State} {p : Prefix} (hd : s.decodeNext = .ok p.instr)
    (hu : p.slot (s.streamByte 1) = .unpopulated) :
    step s = raiseUnknownOpcode (some p.byte) (s.streamByte 1) (State.fetchN 2 s) := by
  have hlen : p.instr.length = 1 := by cases p <;> rfl
  have hbyte : (State.fetchN 1 s).streamByte 0 = s.streamByte 1 := rfl
  simp only [step, hd, hlen, exec_prefixInstr, runSlot, hbyte, hu, Slot.fill]
  rfl

/-- A step has run a whole instruction to its end, or has raised the exception with nothing done but
fetches. -/
theorem step_cases (s : State) :
    (∃ i t, s.decodeNext = .ok i ∧ i.wellFormed = true ∧
      exec i (State.fetchN i.length s) = .next t ∧ step s = .next t) ∨
    ∃ p op k, step s = raiseUnknownOpcode p op (State.fetchN k s) := by
  cases hd : s.decodeNext with
  | unknownOpcode op => exact .inr ⟨none, op, 1, by simp only [step, hd]⟩
  | ok i =>
    obtain hi | ⟨p, rfl, hu⟩ := decode_ok_cases hd
    · obtain ⟨t, ht⟩ := exec_completes hi (State.fetchN i.length s)
      exact .inl ⟨i, t, rfl, hi, ht, by simpa only [step, hd] using ht⟩
    · exact .inr ⟨_, _, 2, step_of_unpopulated_after_prefix hd hu⟩

/-- A step that goes on has run a whole instruction, the one the decoder answers. -/
theorem step_next_cases {s t : State} (h : step s = .next t) :
    ∃ i, s.decodeNext = .ok i ∧ i.wellFormed = true ∧ exec i (State.fetchN i.length s) = .next t := by
  obtain ⟨i, u, hd, hi, hu, hs⟩ | ⟨p, op, k, hs⟩ := step_cases s
  · obtain rfl : u = t := by simpa [hs] using h
    exact ⟨i, hd, hi, hu⟩
  · exact absurd (hs ▸ h) raiseUnknownOpcode_ne_next

/-- What fetches and the effects of instructions keep, the state after a step has, also after one that
faults. -/
theorem stateAfter_step_keeps {P : State → Prop} (hfetch : ∀ k u, P u → P (State.fetchN k u))
    (heffect : ∀ u t, Effect u t → P u → P t) {s : State} (hs : P s) : P (stateAfter s (step s)) := by
  obtain ⟨i, t, -, hi, hexec, hstep⟩ | ⟨p, op, k, hstep⟩ := step_cases s
  · rw [hstep]
    exact heffect _ _ (exec_effect hi hexec) (hfetch _ _ hs)
  · rw [hstep]
    exact hfetch k s hs

end Sys2Proof.Machine
end

section
/-! The invariant of the machine (10_state.md R24) and the shadow bank. -/

namespace Sys2Proof.Machine

/-- Fetches move PC and the trace alone, so they keep the invariant. -/
theorem State.Inv.after_fetchN {s : State} (h : s.Inv) (k : Nat) : (State.fetchN k s).Inv := by
  obtain ⟨hmem, hshadow⟩ := h
  exact ⟨by rwa [State.fetchN_mem], by rwa [State.fetchN_shadow]⟩

theorem State.Inv.after_effect {s t : State} (h : s.Inv) (he : Effect s t) : t.Inv := by
  obtain ⟨hmem, hshadow⟩ := h
  exact ⟨he.keeps_wf hmem, he.keeps_shadow.trans hshadow⟩

theorem State.Inv.after_step {s : State} (h : s.Inv) : (stateAfter s (step s)).Inv :=
  stateAfter_step_keeps (fun k _ hu => hu.after_fetchN k) (fun _ _ he hu => hu.after_effect he) h

/-- Every action of the host keeps the invariant; Reset because it zeroes the shadow bank and keeps memory,
the others because they write memory byte by byte and never the shadow bank. -/
theorem State.Inv.after_hostAct {s : State} (h : s.Inv) (act : HostAction) : (hostAct act s).Inv := by
  have ⟨hmem, hshadow⟩ := h
  cases act with
  | step => exact h.after_step
  | reset => exact ⟨hmem, State.hostReset_shadow s⟩
  | write8 r v =>
    rw [hostAct, State.Inv, State.hostWrite8_mem, State.hostWrite8_shadow]
    exact h
  | write16 r v =>
    rw [hostAct, State.Inv, State.hostWrite16_mem, State.hostWrite16_shadow]
    exact h
  | setByte a v => exact ⟨State.writeByte_wf hmem a v, hshadow⟩
  | setWord a v => exact ⟨State.writeWord_wf hmem a v, hshadow⟩
  | attach on => exact ⟨hmem, hshadow⟩

theorem State.Inv.after_hostRun {s : State} (h : s.Inv) (acts : List HostAction) : (hostRun acts s).Inv := by
  induction acts generalizing s with
  | nil => exact h
  | cons act acts ih => exact ih (h.after_hostAct act)

/-- Every launch meets the invariant (70_reset_and_hazards.md R221). -/
theorem State.powerOn_inv (img : Word → Byte) (att : Bool) : (State.powerOn img att).Inv :=
  ⟨by rw [State.powerOn_mem]; exact Memory.ofImage_wf img, State.powerOn_shadow img att⟩

/-- Settles O54: the invariant is kept by fetches and by every effect, so by every step. -/
theorem stepKeepsInvariant : Obligations.StepKeepsInvariant := by
  intro s hs
  have hafter := hs.after_step
  refine ⟨fun t ht => ?_, fun p op t ht => ?_⟩
  · rwa [ht] at hafter
  · rwa [ht] at hafter

/-- Settles O55: every single action keeps the invariant, a sequence by induction on its length. -/
theorem hostActionsKeepInvariant : Obligations.HostActionsKeepInvariant :=
  ⟨fun _ act hs => hs.after_hostAct act, State.powerOn_inv, fun acts _ hs => hs.after_hostRun acts⟩

/-- Settles O53: the memory of `State.reset` has no pair, and its shadow bank is the zero one. -/
theorem resetStateMeetsInvariant : Obligations.ResetStateMeetsInvariant :=
  ⟨rfl, rfl⟩

theorem stateAfter_step_shadow (s : State) : (stateAfter s (step s)).shadow = s.shadow :=
  stateAfter_step_keeps (P := fun u => u.shadow = s.shadow)
    (fun k u hu => (State.fetchN_shadow k u).trans hu) (fun _ _ he hu => he.keeps_shadow.trans hu) rfl

/-- Settles O42: no fetch, no effect and no host write reaches the shadow bank. -/
theorem shadowBankIsInert : Obligations.ShadowBankIsInert := by
  refine ⟨fun s t ht => ?_, fun s act hact => ?_⟩
  · simpa [ht, stateAfter] using stateAfter_step_shadow s
  · cases act with
    | step => exact stateAfter_step_shadow s
    | reset => exact absurd rfl hact
    | write8 r v => exact State.hostWrite8_shadow s r v
    | write16 r v => exact State.hostWrite16_shadow s r v
    | setByte a v => exact State.writeByte_shadow s a v
    | setWord a v => exact State.writeWord_shadow s a v
    | attach on => exact State.hostAttach_shadow s on

end Sys2Proof.Machine
end

section
/-! The registers that are no operand `r` (30_encoding.md R63), F, I, R, IX, IY and SP: each is written by a
few instructions, which `SpecialEffect` names. -/

namespace Sys2Proof.Machine
open Sys2Proof.Claims

/-- F, I, R, IX, IY and SP are the same in `s` and `t`. -/
structure KeepsSpecialRegs (s t : State) : Prop where
  f : t.f = s.f
  i : t.i = s.i
  r : t.r = s.r
  ix : t.ix = s.ix
  iy : t.iy = s.iy
  sp : t.sp = s.sp

/-- What a whole instruction does to F, I, R, IX, IY and SP: `SpecialEffect s i t` says which of them `i`
writes, and with what, when it leads from `s` to `t`. -/
inductive SpecialEffect (s : State) : Instr → State → Prop
  | loadI : SpecialEffect s .ld_I_A (s.setI s.a)
  | loadR : SpecialEffect s .ld_R_A (s.setR s.a)
  | loadSP {i : Instr} (hload : loadsSP i = true) (hpush : isPush i = false) (hpop : isPop i = false)
      (v : Word) : SpecialEffect s i (s.setSP v)
  | loadIndexImm (x : Index) (nn : Word) : SpecialEffect s (.ldIndexImm x nn) (s.setIndex x nn)
  | loadIndexAtNN (x : Index) (nn : Word) :
      SpecialEffect s (.ldIndexAtNN x nn) (s.setIndex x (s.readWord nn))
  | push (p : StackPair ⊕ Index) : SpecialEffect s (pushOf p) (s.push16 (stackValue s p))
  | popPair (p : StackPair) : SpecialEffect s (.pop p) (s.pop16.2.setStackPair p s.pop16.1)
  | popIndex (x : Index) : SpecialEffect s (.popIndex x) (s.pop16.2.setIndex x s.pop16.1)
  | none {i : Instr} {t : State} (hpush : isPush i = false) (hpop : isPop i = false)
      (hkeeps : KeepsSpecialRegs s t) : SpecialEffect s i t

theorem exec_specialEffect {i : Instr} {s t : State} (hi : i.wellFormed = true)
    (h : exec i s = .next t) : SpecialEffect s i t := by
  cases i
  case prefix_DD | prefix_FD | prefix_ED => exact absurd hi Bool.false_ne_true
  case ld_I_A => cases h; exact .loadI
  case ld_R_A => cases h; exact .loadR
  case ld_SP_nn | ld_SP_atNN | ld_SP_HL | ld_SP_IX | ld_SP_IY => cases h; exact .loadSP rfl rfl rfl _
  case ld_IX_nn nn => cases h; exact .loadIndexImm .IX nn
  case ld_IY_nn nn => cases h; exact .loadIndexImm .IY nn
  case ld_IX_atNN nn => cases h; exact .loadIndexAtNN .IX nn
  case ld_IY_atNN nn => cases h; exact .loadIndexAtNN .IY nn
  case push_BC => cases h; exact .push (.inl .BC)
  case push_DE => cases h; exact .push (.inl .DE)
  case push_HL => cases h; exact .push (.inl .HL)
  case push_AF => cases h; exact .push (.inl .AF)
  case push_IX => cases h; exact .push (.inr .IX)
  case push_IY => cases h; exact .push (.inr .IY)
  case pop_BC => cases h; exact .popPair .BC
  case pop_DE => cases h; exact .popPair .DE
  case pop_HL => cases h; exact .popPair .HL
  case pop_AF => cases h; exact .popPair .AF
  case pop_IX => cases h; exact .popIndex .IX
  case pop_IY => cases h; exact .popIndex .IY
  all_goals cases h; exact .none rfl rfl ⟨rfl, rfl, rfl, rfl, rfl, rfl⟩

/-- A step that goes on has one of these effects on the state after its fetches. -/
theorem step_specialEffect {s t : State} (h : step s = .next t) :
    ∃ i, s.decodeNext = .ok i ∧ SpecialEffect (State.fetchN i.length s) i t := by
  obtain ⟨i, hd, hi, hexec⟩ := step_next_cases h
  exact ⟨i, hd, exec_specialEffect hi hexec⟩

/-! ### What fetches leave to a meaning -/

@[simp] theorem State.fetchN_a (k : Nat) (s : State) : (State.fetchN k s).a = s.a :=
  State.fetchN_reg8 k s .A
@[simp] theorem State.fetchN_index (k : Nat) (s : State) (x : Index) :
    (State.fetchN k s).index x = s.index x := by
  cases x
  · exact State.fetchN_ix k s
  · exact State.fetchN_iy k s
@[simp] theorem State.fetchN_readByte (k : Nat) (s : State) (a : Word) :
    (State.fetchN k s).readByte a = s.readByte a := by
  simp only [State.readByte, State.fetchN_mem]

/-! ### F (10_state.md R17) -/

theorem SpecialEffect.f_eq_or {s t : State} {i : Instr} (h : SpecialEffect s i t) :
    t.f = s.f ∨ i = .pop_AF := by
  cases h with
  | popPair p =>
    cases p with
    | AF => exact .inr rfl
    | BC | DE | HL => exact .inl (State.pop16_f s)
  | none _ _ hkeeps => exact .inl hkeeps.f
  | _ => exact .inl (by simp)

/-- `POP AF` loads F from the byte at SP (43_stack.md R171, R175). -/
theorem exec_pop_AF_f {s t : State} (h : exec .pop_AF s = .next t) : t.f = s.readByte s.sp := by
  obtain rfl := popPair_next.1 h
  rw [State.pop16_eq]
  exact lowByte_word _ _

/-- `PUSH AF` stores F at the new SP and keeps it (43_stack.md R170, R172). -/
theorem exec_push_AF_f {s t : State} (hwf : Memory.wf s.mem = true) (h : exec .push_AF s = .next t) :
    t.readByte (s.sp - 2#16) = s.f ∧ t.f = s.f := by
  obtain rfl := pushPair_next.1 h
  refine ⟨?_, State.push16_f _ _⟩
  rw [State.readByte_push16 hwf, if_pos rfl]
  exact lowByte_word s.a s.f

/-- Settles O38: `POP AF` is the one instruction whose effect reaches F. -/
theorem flagsChangeOnlyByPopAF : Obligations.FlagsChangeOnlyByPopAF := by
  refine ⟨fun s t ht hne => ?_, fun s t ht hd => ?_, fun s t => exec_push_AF_f, fun _ _ => rfl⟩
  · obtain ⟨i, hd, heff⟩ := step_specialEffect ht
    obtain hf | rfl := heff.f_eq_or
    · exact absurd (hf.trans (State.fetchN_f _ s)) hne
    · exact hd
  · obtain ⟨i, hd', hexec⟩ := step_next_inv ht
    obtain rfl : i = .pop_AF := by simpa [hd] using hd'.symm
    simpa using exec_pop_AF_f hexec

/-! ### SP (10_state.md R15) -/

theorem pushOf_isPush (p : StackPair ⊕ Index) : isPush (pushOf p) = true ∧ isPop (pushOf p) = false := by
  obtain (_ | _ | _ | _) | (_ | _) := p <;> exact ⟨rfl, rfl⟩

theorem popOf_isPop (q : StackPair ⊕ Index) : isPush (popOf q) = false ∧ isPop (popOf q) = true := by
  obtain (_ | _ | _ | _) | (_ | _) := q <;> exact ⟨rfl, rfl⟩

theorem ldIndexImm_isPush_isPop (x : Index) (nn : Word) :
    isPush (.ldIndexImm x nn) = false ∧ isPop (.ldIndexImm x nn) = false := by
  cases x <;> exact ⟨rfl, rfl⟩

theorem ldIndexAtNN_isPush_isPop (x : Index) (nn : Word) :
    isPush (.ldIndexAtNN x nn) = false ∧ isPop (.ldIndexAtNN x nn) = false := by
  cases x <;> exact ⟨rfl, rfl⟩

/-- A push takes 2 from SP, a pop adds 2, and of the other instructions only a load of SP changes it. -/
theorem SpecialEffect.sp_cases {s t : State} {i : Instr} (h : SpecialEffect s i t) :
    (isPush i = true ∧ isPop i = false ∧ t.sp = s.sp - 2#16) ∨
    (isPush i = false ∧ isPop i = true ∧ t.sp = s.sp + 2#16) ∨
    (isPush i = false ∧ isPop i = false ∧ (loadsSP i = true ∨ t.sp = s.sp)) := by
  cases h with
  | push p =>
    obtain ⟨hpush, hpop⟩ := pushOf_isPush p
    exact .inl ⟨hpush, hpop, State.push16_sp _ _⟩
  | popPair p =>
    obtain ⟨hpush, hpop⟩ := popOf_isPop (.inl p)
    exact .inr (.inl ⟨hpush, hpop, (State.setStackPair_sp _ _ _).trans (State.pop16_sp s)⟩)
  | popIndex x =>
    obtain ⟨hpush, hpop⟩ := popOf_isPop (.inr x)
    exact .inr (.inl ⟨hpush, hpop, (State.setIndex_sp _ _ _).trans (State.pop16_sp s)⟩)
  | loadIndexImm x nn =>
    obtain ⟨hpush, hpop⟩ := ldIndexImm_isPush_isPop x nn
    exact .inr (.inr ⟨hpush, hpop, .inr (State.setIndex_sp _ _ _)⟩)
  | loadIndexAtNN x nn =>
    obtain ⟨hpush, hpop⟩ := ldIndexAtNN_isPush_isPop x nn
    exact .inr (.inr ⟨hpush, hpop, .inr (State.setIndex_sp _ _ _)⟩)
  | loadI => exact .inr (.inr ⟨rfl, rfl, .inr (State.setI_sp _ _)⟩)
  | loadR => exact .inr (.inr ⟨rfl, rfl, .inr (State.setR_sp _ _)⟩)
  | loadSP hload hpush hpop v => exact .inr (.inr ⟨hpush, hpop, .inl hload⟩)
  | none hpush hpop hkeeps => exact .inr (.inr ⟨hpush, hpop, .inr hkeeps.sp⟩)

/-- Settles O39: the three kinds of instruction exclude each other, and fetches leave SP. -/
theorem spChangesOnlyByItsInstructions : Obligations.SPChangesOnlyByItsInstructions := by
  intro s t i hd ht
  obtain ⟨j, hd', heff⟩ := step_specialEffect ht
  obtain rfl : j = i := by simpa [hd] using hd'.symm
  obtain ⟨hpush, hpop, hsp⟩ | ⟨hpush, hpop, hsp⟩ | ⟨hpush, hpop, hload | hsp⟩ := heff.sp_cases
  · simp [hpush, hpop, hsp]
  · simp [hpush, hpop, hsp]
  · simp [hpush, hpop, hload]
  · simp [hpush, hpop, hsp]

/-! ### I and R (10_state.md R19) -/

theorem SpecialEffect.i_eq_or {s t : State} {i : Instr} (h : SpecialEffect s i t) :
    t.i = s.i ∨ i = .ld_I_A ∧ t.i = s.a := by
  cases h with
  | loadI => exact .inr ⟨rfl, rfl⟩
  | none _ _ hkeeps => exact .inl hkeeps.i
  | _ => exact .inl (by simp)

theorem SpecialEffect.r_eq_or {s t : State} {i : Instr} (h : SpecialEffect s i t) :
    t.r = s.r ∨ i = .ld_R_A ∧ t.r = s.a := by
  cases h with
  | loadR => exact .inr ⟨rfl, rfl⟩
  | none _ _ hkeeps => exact .inl hkeeps.r
  | _ => exact .inl (by simp)

/-- Settles O40: `LD I,A` and `LD R,A` alone reach I and R, and fetches do not advance R. -/
theorem iAndRArePlainStorage : Obligations.IAndRArePlainStorage := by
  intro s t ht
  obtain ⟨i, hd, heff⟩ := step_specialEffect ht
  constructor
  · intro hne
    obtain hi | ⟨rfl, ha⟩ := heff.i_eq_or
    · exact absurd (hi.trans (State.fetchN_i _ s)) hne
    · exact ⟨hd, ha.trans (State.fetchN_a _ s)⟩
  · intro hne
    obtain hr | ⟨rfl, ha⟩ := heff.r_eq_or
    · exact absurd (hr.trans (State.fetchN_r _ s)) hne
    · exact ⟨hd, ha.trans (State.fetchN_a _ s)⟩

/-! ### IX and IY (10_state.md R14) -/

/-- `i` is one of the three instructions that load the index register `x`. -/
def LoadsIndex (x : Index) (i : Instr) : Prop :=
  i = .popIndex x ∨ ∃ nn, i = .ldIndexImm x nn ∨ i = .ldIndexAtNN x nn

theorem KeepsSpecialRegs.index {s t : State} (h : KeepsSpecialRegs s t) (x : Index) :
    t.index x = s.index x := by
  cases x
  · exact h.ix
  · exact h.iy

/-- A write of one index register leaves the other. -/
theorem State.setIndex_index_of_ne (s : State) {x y : Index} (h : y ≠ x) (v : Word) :
    (s.setIndex x v).index y = s.index y := by
  rw [State.index_setIndex, if_neg h]

@[simp] theorem State.pop16_index (s : State) (x : Index) : s.pop16.2.index x = s.index x := by
  cases x
  · exact State.pop16_ix s
  · exact State.pop16_iy s

theorem SpecialEffect.index_eq_or {s t : State} {i : Instr} (h : SpecialEffect s i t) (x : Index) :
    t.index x = s.index x ∨ (∀ y, y ≠ x → t.index y = s.index y) ∧ LoadsIndex x i := by
  cases h with
  | loadIndexImm y nn =>
    obtain rfl | hxy := eq_or_ne x y
    · exact .inr ⟨fun _ h => s.setIndex_index_of_ne h _, .inr ⟨nn, .inl rfl⟩⟩
    · exact .inl (s.setIndex_index_of_ne hxy _)
  | loadIndexAtNN y nn =>
    obtain rfl | hxy := eq_or_ne x y
    · exact .inr ⟨fun _ h => s.setIndex_index_of_ne h _, .inr ⟨nn, .inr rfl⟩⟩
    · exact .inl (s.setIndex_index_of_ne hxy _)
  | popIndex y =>
    obtain rfl | hxy := eq_or_ne x y
    · exact .inr ⟨fun _ h => by rw [State.setIndex_index_of_ne _ h, State.pop16_index], .inl rfl⟩
    · exact .inl (by rw [State.setIndex_index_of_ne _ hxy, State.pop16_index])
  | none _ _ hkeeps => exact .inl (hkeeps.index x)
  | _ => left; cases x <;> simp [State.index]

theorem step_index_eq_or {s t : State} (ht : step s = .next t) (x : Index) :
    t.index x = s.index x ∨
      (∀ y, y ≠ x → t.index y = s.index y) ∧ ∃ i, s.decodeNext = .ok i ∧ LoadsIndex x i := by
  obtain ⟨i, hd, heff⟩ := step_specialEffect ht
  simpa [hd] using heff.index_eq_or x

/-- Settles O41: each index register by the one lemma about both. -/
theorem ixAndIYAreIndependent : Obligations.IXAndIYAreIndependent := by
  intro s t ht
  constructor
  · intro hne
    obtain ⟨hother, i, hd, hi⟩ := (step_index_eq_or ht .IX).resolve_left hne
    exact ⟨hother .IY (by decide), by simp only [hd, Decoded.ok.injEq]; exact hi⟩
  · intro hne
    obtain ⟨hother, i, hd, hi⟩ := (step_index_eq_or ht .IY).resolve_left hne
    exact ⟨hother .IX (by decide), by simp only [hd, Decoded.ok.injEq]; exact hi⟩

end Sys2Proof.Machine
end

section
/-! The register file as the host sees it (10_state.md R13, R27). -/

namespace Sys2Proof.Machine
open Sys2Proof.Claims

theorem State.hostRead8_hostWrite8 (s : State) (x y : HostReg8) (v : Byte) :
    (s.hostWrite8 x v).hostRead8 y = if y = x then v else s.hostRead8 y := by
  cases x <;> cases y <;> rfl

/-- The names of the four 16-bit registers that are no pair. -/
theorem hostReg16_single_cases {x : HostReg16} (hx : x ∈ [HostReg16.SP, .PC, .IX, .IY]) :
    x = .SP ∨ x = .PC ∨ x = .IX ∨ x = .IY := by
  simpa using hx

/-- A write of a pair seen through the 8-bit names. -/
theorem State.hostRead8_hostWrite16_pair (s : State) (p : StackPair) (y : HostReg8) (v : Word) :
    (s.hostWrite16 (wideName p) v).hostRead8 y =
      if y = highHalf p then highByte v else if y = lowHalf p then lowByte v else s.hostRead8 y := by
  cases p <;> cases y <;> rfl

theorem State.hostRead16_hostWrite8_single (s : State) (x : HostReg8) (v : Byte) {y : HostReg16}
    (hy : y ∈ [HostReg16.SP, .PC, .IX, .IY]) : (s.hostWrite8 x v).hostRead16 y = s.hostRead16 y := by
  obtain rfl | rfl | rfl | rfl := hostReg16_single_cases hy <;> simp [State.hostRead16]

@[simp] theorem State.hostWrite8_readByte (s : State) (x : HostReg8) (v : Byte) (a : Word) :
    (s.hostWrite8 x v).readByte a = s.readByte a := by
  simp only [State.readByte, State.hostWrite8_mem]

@[simp] theorem State.hostWrite16_readByte (s : State) (x : HostReg16) (v : Word) (a : Word) :
    (s.hostWrite16 x v).readByte a = s.readByte a := by
  simp only [State.readByte, State.hostWrite16_mem]

theorem State.hostRead16_hostWrite16_same (s : State) (x : HostReg16) (v : Word) :
    (s.hostWrite16 x v).hostRead16 x = v := by
  cases x with
  | PC | SP | IX | IY => rfl
  | BC | DE | HL | AF => exact word_highByte_lowByte v

/-- A write of an 8-bit name reaches that register alone. -/
theorem State.hostWrite8_frame (s : State) (x : HostReg8) (v : Byte) :
    Frame [x] [] [] s (s.hostWrite8 x v) := by
  refine ⟨fun y hy => ?_, fun y hy _ => s.hostRead16_hostWrite8_single x v hy, by simp⟩
  rw [State.hostRead8_hostWrite8, if_neg (by simpa using hy)]

theorem State.hostRead16_hostWrite16_single (s : State) {x y : HostReg16} (v : Word)
    (hx : x ∈ [HostReg16.SP, .PC, .IX, .IY]) (hy : y ∈ [HostReg16.SP, .PC, .IX, .IY]) :
    (s.hostWrite16 x v).hostRead16 y = if y = x then v else s.hostRead16 y := by
  obtain rfl | rfl | rfl | rfl := hostReg16_single_cases hx <;>
    obtain rfl | rfl | rfl | rfl := hostReg16_single_cases hy <;> rfl

/-- A write of SP, PC, IX or IY reaches that register alone. -/
theorem State.hostWrite16_single_frame (s : State) {x : HostReg16} (v : Word)
    (hx : x ∈ [HostReg16.SP, .PC, .IX, .IY]) : Frame [] [x] [] s (s.hostWrite16 x v) := by
  refine ⟨fun y _ => ?_, fun y hy hne => ?_, by simp⟩
  · obtain rfl | rfl | rfl | rfl := hostReg16_single_cases hx <;> cases y <;> rfl
  · rw [State.hostRead16_hostWrite16_single s v hx hy, if_neg (by simpa using hne)]

/-- A write of a pair reaches its two halves alone. -/
theorem State.hostWrite16_pair_frame (s : State) (p : StackPair) (v : Word) :
    Frame [highHalf p, lowHalf p] [] [] s (s.hostWrite16 (wideName p) v) := by
  refine ⟨fun y hy => ?_, fun y hy _ => ?_, by simp⟩
  · obtain ⟨hhigh, hlow⟩ : y ≠ highHalf p ∧ y ≠ lowHalf p := by simpa using hy
    rw [State.hostRead8_hostWrite16_pair, if_neg hhigh, if_neg hlow]
  · obtain rfl | rfl | rfl | rfl := hostReg16_single_cases hy <;> cases p <;> rfl

/-- Settles O49: each clause holds by the definition of the views, but for the read-back of a written pair,
whose value is put together again from its halves. -/
theorem pairViewsFollowHalves : Obligations.PairViewsFollowHalves := by
  intro s p
  refine ⟨?_, fun v => ⟨?_, ?_, s.hostRead16_hostWrite16_same _ v⟩, fun h => ⟨?_, ?_⟩,
    fun l => ⟨?_, ?_⟩⟩
  all_goals cases p <;> rfl

/-- Settles O50: a written value reads back, and a write has the frame of its register or pair. -/
theorem hostWritesHaveNoSideEffect : Obligations.HostWritesHaveNoSideEffect :=
  ⟨fun s x v => ⟨(s.hostRead8_hostWrite8 x x v).trans (if_pos rfl), s.hostWrite8_frame x v⟩,
    fun s x v hx => ⟨s.hostRead16_hostWrite16_same x v, s.hostWrite16_single_frame v hx⟩,
    fun s p v => ⟨s.hostRead16_hostWrite16_same _ v, s.hostWrite16_pair_frame p v⟩⟩

end Sys2Proof.Machine
end

/-! # The family 20_memory: memory, and its bytes as instruction stream -/

section
/-! The decoder inverts the encoder and looks at no bytes but the instruction's own (30_encoding.md R61, R71),
so the bytes of a whole instruction at PC are the instruction that a step runs. -/

namespace Sys2Proof

theorem Prefix.instr_wellFormed_eq_false (p : Prefix) : p.instr.wellFormed = false := by cases p <;> rfl

/-- A whole instruction is decoded from the slot of `main`, or of the table of a prefix, that it fills. -/
theorem decode_ok_iff {b0 b1 b2 b3 : Byte} {i : Instr} (hi : i.wellFormed = true) :
    decode b0 b1 b2 b3 = .ok i ↔
      (mainSlot b0).fill b1 b2 = some i ∨ ∃ p : Prefix, b0 = p.byte ∧ (p.slot b1).fill b2 b3 = some i := by
  constructor
  · intro h
    unfold decode at h
    split at h
    next p hp =>
      have hb0 : b0 = p.byte := by simpa [hp, Slot.EncodedAs] using mainSlot_encodedAs b0
      cases hf : (p.slot b1).fill b2 b3 with
      | some j =>
        rw [hf] at h
        exact .inr ⟨p, hb0, hf.trans (congrArg some (Decoded.ok.inj h))⟩
      | none =>
        rw [hf] at h
        cases h
        exact absurd (p.instr_wellFormed_eq_false.symm.trans hi) Bool.false_ne_true
    next =>
      split at h
      next j hf => exact .inl (hf.trans (congrArg some (Decoded.ok.inj h)))
      next => cases h
  · rintro (hf | ⟨p, rfl, hf⟩)
    · unfold decode
      split
      next p hp => simp [hp, Slot.fill] at hf
      next => rw [hf]
    · rw [decode, mainSlot_prefixByte]
      simp [hf]

/-- An instruction with `nn` from the two bytes of `nn`, low byte first. -/
theorem Slot.fill_withNN (k : Word → Instr) (nn : Word) :
    (Slot.withNN k).fill (lowByte nn) (highByte nn) = some (k nn) :=
  congrArg (fun v => some (k v)) (Machine.word_highByte_lowByte nn)

/-- The encoding of a whole instruction decodes to it: by computation, but for the forms with `nn`, where the
decoder puts the word together again. -/
theorem decodeBytes_encode {i : Instr} (hi : i.wellFormed = true) : decodeBytes (encode i) = .ok i := by
  cases i
  case prefix_DD | prefix_FD | prefix_ED => exact absurd hi Bool.false_ne_true
  case ld_BC_nn | ld_DE_nn | ld_HL_nn | ld_SP_nn | ld_HL_atNN | ld_atNN_HL | ld_A_atNN | ld_atNN_A =>
    exact (decode_ok_iff hi).2 (.inl (Slot.fill_withNN _ _))
  case ld_IX_nn | ld_IX_atNN | ld_atNN_IX =>
    exact (decode_ok_iff hi).2 (.inr ⟨.DD, rfl, Slot.fill_withNN _ _⟩)
  case ld_IY_nn | ld_IY_atNN | ld_atNN_IY =>
    exact (decode_ok_iff hi).2 (.inr ⟨.FD, rfl, Slot.fill_withNN _ _⟩)
  case ld_BC_atNN | ld_DE_atNN | ld_HL_atNN_ED | ld_SP_atNN | ld_atNN_BC | ld_atNN_DE | ld_atNN_HL_ED |
      ld_atNN_SP =>
    exact (decode_ok_iff hi).2 (.inr ⟨.ED, rfl, Slot.fill_withNN _ _⟩)
  all_goals rfl

/-- The bytes that lead to a slot are the first bytes of the instruction it holds. -/
theorem Slot.length_le {pre : List Byte} {sl : Slot} (h : sl.EncodedAs pre) {x y : Byte} {i : Instr}
    (hf : sl.fill x y = some i) : pre.length ≤ i.length := by
  cases sl with
  | plain => cases hf; simp [Instr.length, h.1]
  | withN | withD => cases hf; simp [Instr.length, (h x).1]
  | withDN => cases hf; simp [Instr.length, (h x y).1]
  | withNN => cases hf; simp [Instr.length, (h (word y x)).1]
  | prefixed | unpopulated => cases hf

/-- A slot uses as many operand bytes as its instruction has: bytes that agree on those fill it with the same
instruction. -/
theorem Slot.fill_congr {pre : List Byte} {sl : Slot} (h : sl.EncodedAs pre) {x y x' y' : Byte} {i : Instr}
    (hf : sl.fill x y = some i) (hx : pre.length < i.length → x' = x)
    (hy : pre.length + 1 < i.length → y' = y) : sl.fill x' y' = some i := by
  cases sl with
  | plain => exact hf
  | withN | withD =>
    cases hf
    rw [hx (by simp [Instr.length, (h x).1])]
    rfl
  | withDN =>
    cases hf
    rw [hx (by simp [Instr.length, (h x y).1]), hy (by simp [Instr.length, (h x y).1])]
    rfl
  | withNN =>
    cases hf
    rw [hx (by simp [Instr.length, (h (word y x)).1]), hy (by simp [Instr.length, (h (word y x)).1])]
    rfl
  | prefixed | unpopulated => cases hf

/-- The decoder looks at the bytes of the whole instruction it answers and at no others. -/
theorem decode_congr {b c : Nat → Byte} {i : Instr} (hi : i.wellFormed = true)
    (h : decode (b 0) (b 1) (b 2) (b 3) = .ok i) (hbc : ∀ k, k < i.length → c k = b k) :
    decode (c 0) (c 1) (c 2) (c 3) = .ok i := by
  obtain hf | ⟨p, hp, hf⟩ := (decode_ok_iff hi).1 h
  · have hsl := mainSlot_encodedAs (b 0)
    have hop : c 0 = b 0 := hbc 0 (Slot.length_le hsl hf)
    refine (decode_ok_iff hi).2 (.inl ?_)
    rw [hop]
    exact Slot.fill_congr hsl hf (hbc 1) (hbc 2)
  · obtain ⟨hsl, -⟩ := p.slot_encodedAs (b 1)
    have hlen : 2 ≤ i.length := Slot.length_le hsl hf
    have hop : c 1 = b 1 := hbc 1 hlen
    refine (decode_ok_iff hi).2 (.inr ⟨p, (hbc 0 (by omega)).trans hp, ?_⟩)
    rw [hop]
    exact Slot.fill_congr hsl hf (hbc 2) (hbc 3)

/-- Bytes that start with the encoding of a whole instruction decode to it, whatever follows. -/
theorem decode_of_bytes {b : Nat → Byte} {i : Instr} (hi : i.wellFormed = true)
    (hb : ∀ k, k < i.length → b k = (encode i).getD k 0) : decode (b 0) (b 1) (b 2) (b 3) = .ok i :=
  decode_congr (b := fun k => (encode i).getD k 0) hi (decodeBytes_encode hi) hb

end Sys2Proof

namespace Sys2Proof.Machine
open Sys2Proof.Claims

/-- The bytes of a whole instruction at PC are what a step decodes. -/
theorem decodeNext_of_fetchesAt {s : State} {i : Instr} (hi : i.wellFormed = true) (h : FetchesAt s i) :
    s.decodeNext = .ok i :=
  decode_of_bytes hi fun k hk => (s.streamByte_eq k).trans (h k hk)

/-- A step from there fetches them and runs their instruction. -/
theorem step_of_fetchesAt {s : State} {i : Instr} (hi : i.wellFormed = true) (h : FetchesAt s i) :
    step s = exec i (State.fetchN i.length s) := by
  simp only [step, decodeNext_of_fetchesAt hi h]

/-- An instruction has the effect that its meaning answers in every state. -/
theorem hasEffect_of_exec {i : Instr} {eff : State → State} (hi : i.wellFormed = true)
    (hexec : ∀ s, exec i s = .next (eff s)) : HasEffect i eff :=
  ⟨hexec, fun _ h => (step_of_fetchesAt hi h).trans (hexec _)⟩

end Sys2Proof.Machine
end

section
/-! Memory: a byte or word read after a write, the launch image, and stored bytes as instruction stream
(20_memory.md R41 to R43, R52). -/

namespace Sys2Proof.Machine
open Sys2Proof.Claims

/-- Settles O46: the read-after-write rule of a byte, and what the memory of an image reads as. -/
theorem byteStoreReadsBack : Obligations.ByteStoreReadsBack := by
  refine ⟨fun s a v hwf => ⟨?_, fun b hb => ?_⟩, fun img att a => ?_⟩
  · rw [State.readByte_writeByte hwf, if_pos rfl]
  · rw [State.readByte_writeByte hwf, if_neg hb]
  · rw [State.readByte, State.powerOn_mem, Memory.get_ofImage]

/-- The value of `{h, l}`: `l` is below 256, so the two bytes do not overlap. -/
theorem toNat_word (h l : Byte) : (word h l).toNat = h.toNat * 256 + l.toNat := by
  have hl : l.toNat < 2 ^ 8 := l.isLt
  have hh : h.toNat <<< 8 < 2 ^ 16 := by rw [Nat.shiftLeft_eq]; omega
  rw [word, BitVec.toNat_or, BitVec.toNat_shiftLeft, BitVec.toNat_setWidth_of_le (by decide),
    BitVec.toNat_setWidth_of_le (by decide), Nat.mod_eq_of_lt hh, ← Nat.shiftLeft_add_eq_or_of_lt hl,
    Nat.shiftLeft_eq]

theorem State.readByte_writeWord_high {s : State} (hwf : Memory.wf s.mem = true) (a v : Word) :
    (s.writeWord a v).readByte (a + 1#16) = highByte v := by
  rw [State.readByte_writeWord hwf, if_pos rfl]

theorem State.readByte_writeWord_low {s : State} (hwf : Memory.wf s.mem = true) (a v : Word) :
    (s.writeWord a v).readByte a = lowByte v := by
  have hne : a ≠ a + 1#16 := by bv_omega
  rw [State.readByte_writeWord hwf, if_neg hne, if_pos rfl]

/-- A word written reads back: its halves do. -/
theorem State.readWord_writeWord {s : State} (hwf : Memory.wf s.mem = true) (a v : Word) :
    (s.writeWord a v).readWord a = v := by
  rw [State.readWord, State.readByte_writeWord_high hwf, State.readByte_writeWord_low hwf,
    word_highByte_lowByte]

/-- Settles O47: the value of two bytes, and the read-after-write rule of a word at its two addresses. -/
theorem wordsAreLittleEndian : Obligations.WordsAreLittleEndian := by
  intro s a v hwf
  have hhigh := State.readByte_writeWord_high hwf a v
  refine ⟨toNat_word _ _, State.readByte_writeWord_low hwf a v, hhigh, State.readWord_writeWord hwf a v,
    fun b hb hb' => ?_, ?_⟩
  · rw [State.readByte_writeWord hwf, if_neg hb', if_neg hb]
  · rintro rfl
    exact hhigh

/-! ### Stored bytes as instruction stream (R52) -/

@[simp] theorem State.fetchN_stackPair (k : Nat) (s : State) (p : StackPair) :
    (State.fetchN k s).stackPair p = s.stackPair p := by
  rw [State.fetchN_eq]; cases p <;> rfl
@[simp] theorem State.fetchN_pair (k : Nat) (s : State) (p : Pair) :
    (State.fetchN k s).pair p = s.pair p := by
  rw [State.fetchN_eq]; cases p <;> rfl
@[simp] theorem State.fetchN_bc (k : Nat) (s : State) : (State.fetchN k s).bc = s.bc :=
  State.fetchN_pair k s .BC
@[simp] theorem State.fetchN_de (k : Nat) (s : State) : (State.fetchN k s).de = s.de :=
  State.fetchN_pair k s .DE
@[simp] theorem State.fetchN_hl (k : Nat) (s : State) : (State.fetchN k s).hl = s.hl :=
  State.fetchN_pair k s .HL
@[simp] theorem State.fetchN_indexed (k : Nat) (s : State) (x : Index) (d : Byte) :
    (State.fetchN k s).indexed x d = s.indexed x d := by
  rw [State.indexed, State.fetchN_index, State.indexed]

/-- Both cells of a word hold their byte after a word store. -/
theorem State.readByte_writeWord_cells {s : State} (hwf : Memory.wf s.mem = true) (a v : Word) :
    ∀ c ∈ wordCells a v, (s.writeWord a v).readByte c.1 = c.2 := by
  simp [wordCells, State.readByte_writeWord_low hwf, State.readByte_writeWord_high hwf]

/-- Both cells of a word hold their byte after a push, the low one at the new SP. -/
theorem State.readByte_push16_cells {s : State} (hwf : Memory.wf s.mem = true) (v : Word) :
    ∀ c ∈ wordCells (s.sp - 2#16) v, (s.push16 v).readByte c.1 = c.2 := by
  have hhigh : s.sp - 2#16 + 1#16 = s.sp - 1#16 := by bv_omega
  have hne : s.sp - 1#16 ≠ s.sp - 2#16 := by bv_omega
  simp [wordCells, State.readByte_push16 hwf, hhigh, hne]

/-- Stored bytes are fetched by the next step when the effect leaves each cell holding its byte, and the
fetches before it leave the cells what they are. -/
theorem storeIsFetched_of_hasEffect {i : Instr} {eff : State → State} {cells : State → List (Word × Byte)}
    (heff : HasEffect i eff)
    (hread : ∀ s, Memory.wf s.mem = true → ∀ c ∈ cells s, (eff s).readByte c.1 = c.2)
    (hcells : ∀ k s, cells (State.fetchN k s) = cells s) : StoreIsFetched i cells := by
  intro s t hwf hat ht c hc k hk
  obtain rfl : eff (State.fetchN i.length s) = t := Host.Outcome.next.inj ((heff.2 s hat).symm.trans ht)
  rw [State.streamByte_eq, hk]
  exact hread _ (by rwa [State.fetchN_mem]) c (by rwa [hcells])

section
variable {i : Instr} {addr val : State → Word} {byte : State → Byte}

theorem storeIsFetched_of_writeByte (heff : HasEffect i fun s => s.writeByte (addr s) (byte s))
    (haddr : ∀ k s, addr (State.fetchN k s) = addr s) (hbyte : ∀ k s, byte (State.fetchN k s) = byte s) :
    StoreIsFetched i fun s => [(addr s, byte s)] := by
  refine storeIsFetched_of_hasEffect heff (fun s hwf c hc => ?_) fun k s => by rw [haddr, hbyte]
  obtain rfl := List.mem_singleton.1 hc
  rw [State.readByte_writeByte hwf, if_pos rfl]

theorem storeIsFetched_of_writeWord {nn : Word} (heff : HasEffect i fun s => s.writeWord nn (val s))
    (hval : ∀ k s, val (State.fetchN k s) = val s) : StoreIsFetched i fun s => wordCells nn (val s) :=
  storeIsFetched_of_hasEffect heff (fun _ hwf => State.readByte_writeWord_cells hwf _ _)
    fun k s => by rw [hval]

theorem storeIsFetched_of_push16 (heff : HasEffect i fun s => s.push16 (val s))
    (hval : ∀ k s, val (State.fetchN k s) = val s) :
    StoreIsFetched i fun s => wordCells (s.sp - 2#16) (val s) :=
  storeIsFetched_of_hasEffect heff (fun _ hwf => State.readByte_push16_cells hwf _)
    fun k s => by rw [State.fetchN_sp, hval]

end

/-! ### The effects of the families of storing forms -/

theorem hasEffect_ldAtHLReg (r : Reg8) :
    HasEffect (.ldAtHLReg r) fun s => s.writeByte s.hl (s.reg8 r) := by
  cases r <;> exact hasEffect_of_exec rfl fun _ => rfl

theorem hasEffect_ldAtIndexReg (x : Index) (r : Reg8) (d : Byte) :
    HasEffect (.ldAtIndexReg x r d) fun s => s.writeByte (s.indexed x d) (s.reg8 r) := by
  cases x <;> cases r <;> exact hasEffect_of_exec rfl fun _ => rfl

theorem hasEffect_ldAtIndexImm (x : Index) (d n : Byte) :
    HasEffect (.ldAtIndexImm x d n) fun s => s.writeByte (s.indexed x d) n := by
  cases x <;> exact hasEffect_of_exec rfl fun _ => rfl

theorem hasEffect_ldAtNNPair (p : Pair) (nn : Word) :
    HasEffect (.ldAtNNPair p nn) fun s => s.writeWord nn (s.pair p) := by
  cases p <;> exact hasEffect_of_exec rfl fun _ => rfl

theorem hasEffect_ldAtNNIndex (x : Index) (nn : Word) :
    HasEffect (.ldAtNNIndex x nn) fun s => s.writeWord nn (s.index x) := by
  cases x <;> exact hasEffect_of_exec rfl fun _ => rfl

theorem hasEffect_push (p : StackPair) : HasEffect (.push p) fun s => s.push16 (s.stackPair p) := by
  cases p <;> exact hasEffect_of_exec rfl fun _ => rfl

theorem hasEffect_pushIndex (x : Index) : HasEffect (.pushIndex x) fun s => s.push16 (s.index x) := by
  cases x <;> exact hasEffect_of_exec rfl fun _ => rfl

/-- Settles O44: each form's effect is one of the three stores, at an address and with a value that fetches
leave. -/
theorem storesAreSeenByTheNextStep : Obligations.StoresAreSeenByTheNextStep :=
  ⟨State.streamByte_eq,
    fun r => storeIsFetched_of_writeByte (hasEffect_ldAtHLReg r) State.fetchN_hl (State.fetchN_reg8 · · r),
    fun _ => storeIsFetched_of_writeByte (hasEffect_of_exec rfl fun _ => rfl) State.fetchN_hl fun _ _ => rfl,
    fun x r d => storeIsFetched_of_writeByte (hasEffect_ldAtIndexReg x r d) (State.fetchN_indexed · · x d)
      (State.fetchN_reg8 · · r),
    fun x d n => storeIsFetched_of_writeByte (hasEffect_ldAtIndexImm x d n) (State.fetchN_indexed · · x d)
      fun _ _ => rfl,
    storeIsFetched_of_writeByte (hasEffect_of_exec rfl fun _ => rfl) State.fetchN_bc State.fetchN_a,
    storeIsFetched_of_writeByte (hasEffect_of_exec rfl fun _ => rfl) State.fetchN_de State.fetchN_a,
    fun _ => storeIsFetched_of_writeByte (hasEffect_of_exec rfl fun _ => rfl) (fun _ _ => rfl) State.fetchN_a,
    fun _ => storeIsFetched_of_writeWord (hasEffect_of_exec rfl fun _ => rfl) State.fetchN_hl,
    fun p nn => storeIsFetched_of_writeWord (hasEffect_ldAtNNPair p nn) (State.fetchN_pair · · p),
    fun x nn => storeIsFetched_of_writeWord (hasEffect_ldAtNNIndex x nn) (State.fetchN_index · · x),
    fun p => storeIsFetched_of_push16 (hasEffect_push p) (State.fetchN_stackPair · · p),
    fun x => storeIsFetched_of_push16 (hasEffect_pushIndex x) (State.fetchN_index · · x)⟩

end Sys2Proof.Machine
end

/-! # The family 30_encoding: the opcode tables, the decoder and the encoder -/

section
/-! The decoder by the kind of its first byte: a prefix byte leads to the table it selects, any other byte to
its own slot of `main` (30_encoding.md R60, R70, R71). -/

namespace Sys2Proof

/-- The slots of `main` that lead to another table are those of the prefix bytes. -/
theorem mainSlot_notPrefixed_or_prefixByte (b : Byte) :
    (mainSlot b).isPrefixed = false ∨ ∃ p : Prefix, b = p.byte := by
  have henc := mainSlot_encodedAs b
  cases hs : mainSlot b with
  | prefixed p => exact .inr ⟨p, by simpa [hs, Slot.EncodedAs] using henc⟩
  | _ => exact .inl rfl

theorem decode_prefixByte (p : Prefix) (b1 b2 b3 : Byte) :
    decode p.byte b1 b2 b3 = .ok (((p.slot b1).fill b2 b3).getD p.instr) := by
  rw [decode, mainSlot_prefixByte]

theorem decode_of_isPrefixed_eq_false {b0 : Byte} (h : (mainSlot b0).isPrefixed = false) (b1 b2 b3 : Byte) :
    decode b0 b1 b2 b3 = ((mainSlot b0).fill b1 b2).elim (.unknownOpcode b0) .ok := by
  unfold decode
  split
  next p hp => simp [hp, Slot.isPrefixed] at h
  next => cases (mainSlot b0).fill b1 b2 <;> rfl

/-- Before a byte that its table has no slot for, a prefix byte decodes to its own slot alone (log entry 4). -/
theorem decode_prefixByte_of_unpopulated {p : Prefix} {b1 : Byte} (h : p.slot b1 = .unpopulated)
    (b2 b3 : Byte) : decode p.byte b1 b2 b3 = .ok p.instr := by
  rw [decode_prefixByte, h]
  rfl

theorem Prefix.encode_instr (p : Prefix) : encode p.instr = [p.byte] := by cases p <;> rfl

/-- The instruction answered has the bytes read, as far as it is long, as its encoding. -/
theorem encode_of_decode {b0 b1 b2 b3 : Byte} {i : Instr} (h : decode b0 b1 b2 b3 = .ok i) :
    encode i = [b0, b1, b2, b3].take i.length := by
  obtain hmain | ⟨p, rfl⟩ := mainSlot_notPrefixed_or_prefixByte b0
  · rw [decode_of_isPrefixed_eq_false hmain] at h
    cases hf : (mainSlot b0).fill b1 b2 with
    | none => simp [hf] at h
    | some j =>
      obtain rfl : j = i := by simpa [hf] using h
      have henc : encode j = [b0, b1, b2].take j.length := (Slot.fill_some (mainSlot_encodedAs b0) hf).2
      have hlen : j.length ≤ 3 := by rw [Instr.length, henc]; exact List.length_take_le' _ _
      exact henc.trans (List.take_append_of_le_length (l₂ := [b3]) hlen).symm
  · rw [decode_prefixByte] at h
    cases hf : (p.slot b1).fill b2 b3 with
    | none =>
      obtain rfl : p.instr = i := by simpa [hf] using h
      simp [Instr.length, p.encode_instr]
    | some j =>
      obtain rfl : j = i := by simpa [hf] using h
      exact (Slot.fill_some (p.slot_encodedAs b1).1 hf).2

/-- A prefix slot alone is answered only where its prefix byte stands before a byte that its table has no
slot for. -/
theorem prefixByte_of_decode {b0 b1 b2 b3 : Byte} {p : Prefix} (h : decode b0 b1 b2 b3 = .ok p.instr) :
    b0 = p.byte ∧ p.slot b1 = .unpopulated := by
  have henc := encode_of_decode h
  rw [Instr.length, p.encode_instr] at henc
  obtain rfl : b0 = p.byte := by simpa using henc.symm
  obtain ⟨hslot, hpfx⟩ := p.slot_encodedAs b1
  rw [decode_prefixByte] at h
  cases hf : (p.slot b1).fill b2 b3 with
  | none => exact ⟨rfl, (Slot.fill_none hpfx).1 hf⟩
  | some j =>
    obtain rfl : j = p.instr := by simpa [hf] using h
    exact absurd (p.instr_wellFormed_eq_false.symm.trans (Slot.fill_some hslot hf).1) Bool.false_ne_true

/-- The decoder rejects the bytes whose slot of `main` is unpopulated. -/
theorem decode_unknownOpcode_iff (b0 b1 b2 b3 op : Byte) :
    decode b0 b1 b2 b3 = .unknownOpcode op ↔ op = b0 ∧ mainSlot b0 = .unpopulated := by
  obtain hmain | ⟨p, rfl⟩ := mainSlot_notPrefixed_or_prefixByte b0
  · rw [decode_of_isPrefixed_eq_false hmain, ← Slot.fill_none (x := b1) (y := b2) hmain]
    cases (mainSlot b0).fill b1 b2 <;> simp [eq_comm]
  · simp [decode_prefixByte, mainSlot_prefixByte]

end Sys2Proof
end

section
/-! Encoding and decoding agree, in both directions, and at PC (30_encoding.md R60 to R71). -/

namespace Sys2Proof.Machine
open Sys2Proof.Claims

/-- Settles O56: bytes that start with the encoding of a whole instruction decode to it. -/
theorem decodeOfEncodeIsIdentity : Obligations.DecodeOfEncodeIsIdentity := by
  intro i rest hi
  exact decode_of_bytes (b := fun k => (encode i ++ rest).getD k 0) hi
    fun k hk => List.getD_append (encode i) rest 0 k hk

/-- Settles O57: the three answers of the decoder, one lemma each. -/
theorem decodeAnswersOnlyWhatStandsThere : Obligations.DecodeAnswersOnlyWhatStandsThere :=
  fun b0 b1 b2 b3 => ⟨fun _ => encode_of_decode, fun _ => prefixByte_of_decode,
    decode_unknownOpcode_iff b0 b1 b2 b3⟩

/-- Settles O28: the bytes of a whole instruction at PC are what a step decodes and runs. -/
theorem bytesAtPcDecodeToTheirInstruction : Obligations.BytesAtPcDecodeToTheirInstruction :=
  fun _ _ hi h => ⟨decodeNext_of_fetchesAt hi h, step_of_fetchesAt hi h⟩

/-- No prefix table has a slot for 0x76 or for a prefix byte (30_encoding.md R71, 44_halt.md R184). -/
theorem slot_unpopulated_of_halt_or_prefixByte (p : Prefix) {op : Byte}
    (hop : op = 0x76 ∨ ∃ q : Prefix, op = q.byte) : p.slot op = .unpopulated := by
  obtain rfl | ⟨q, rfl⟩ := hop
  · cases p <;> rfl
  · cases p <;> cases q <;> rfl

/-- Settles O26: the decoder answers the prefix slot alone, whose handler raises the exception; the two
fetches before it do not reach `halted`. -/
theorem prefixChainsAndPrefixedHaltFault : Obligations.PrefixChainsAndPrefixedHaltFault := by
  rintro p s op hp rfl hop
  have hu := slot_unpopulated_of_halt_or_prefixByte p hop
  have hd : s.decodeNext = .ok p.instr := by
    rw [State.decodeNext, hp]
    exact decode_prefixByte_of_unpopulated hu _ _
  exact ⟨step_of_unpopulated_after_prefix hd hu, State.fetchN_halted 2 s⟩

end Sys2Proof.Machine
end

section
/-! The opcode tables themselves (30_encoding.md R66 to R69). -/

namespace Sys2Proof.Machine
open Sys2Proof.Claims

/-- Settles O58, by counting each table over the 256 byte values. -/
theorem populatedSlotCounts : Obligations.PopulatedSlotCounts :=
  ⟨by rfl, by rfl, by rfl, by rfl⟩

/-- Settles O59: the two tables have the same populated slots, and each pair of them holds the same
instruction but for the index register. -/
theorem fdTableIsDdTableWithIY : Obligations.FdTableIsDdTableWithIY := by
  intro op x y
  -- Both tables match on the same opcode numbers, so one split opens the same slot of each.
  unfold ddSlot fdSlot
  split <;> rfl

/-- Settles O60, by running the decoder on each word. -/
theorem sampleWordsDecode : Obligations.SampleWordsDecode := by
  unfold Obligations.SampleWordsDecode
  decide

end Sys2Proof.Machine
end

/-! # The family 40_step_dispatch: fetching, the prefix handlers, and what a step is -/

section
/-! A step: the instruction decoded at PC, its bytes fetched and traced, its meaning run
(40_step_dispatch.md R90 to R94, R102 to R107). -/

namespace Sys2Proof.Machine
open Sys2Proof.Claims

/-- Settles O25: every meaning completes, and a step runs one or raises the exception. -/
theorem everyInstructionCompletes : Obligations.EveryInstructionCompletes := by
  refine ⟨fun i s hi => exec_completes hi s, fun s => ?_⟩
  obtain ⟨i, t, -, -, -, hstep⟩ | ⟨p, op, k, hstep⟩ := step_cases s
  · exact .inl ⟨t, hstep⟩
  · exact .inr ⟨p, op, State.fetchN k s, hstep⟩

/-- Settles O31: none of the effects of instructions reaches PC or the trace. -/
theorem meaningsLeavePcAndTrace : Obligations.MeaningsLeavePcAndTrace :=
  fun _ _ _ hi h => (exec_effect hi h).keeps_pc_and_trace

/-! ### What fetching does to the trace (R91, R93) -/

/-- The bytes that `k` fetches return are the first `k` of the stream. -/
theorem State.streamBytes_eq_map (k : Nat) (s : State) :
    State.streamBytes k s = (List.range k).map s.streamByte := by
  induction k generalizing s with
  | zero => rfl
  | succ k ih =>
    rw [State.streamBytes, ih, List.range_succ_eq_map, List.map_cons, List.map_map]
    rfl

theorem TracePort.emitAll_attached (p : TracePort) (bs : List Byte) :
    (p.emitAll bs).attached = p.attached := by
  induction bs generalizing p with
  | nil => rfl
  | cons b bs ih => exact ih (p.emit b)

/-- An observer that listens receives every byte emitted, and with none the events are dropped. -/
theorem TracePort.emitAll_delivered (p : TracePort) (bs : List Byte) :
    (p.emitAll bs).delivered = if p.attached then p.delivered ++ bs else p.delivered := by
  induction bs generalizing p with
  | nil => simp [TracePort.emitAll]
  | cons b bs ih =>
    refine (ih (p.emit b)).trans ?_
    cases h : p.attached <;> simp [TracePort.emit, h]

theorem State.fetchN_emitted (k : Nat) (s : State) :
    (State.fetchN k s).trace.emitted = s.trace.emitted ++ (List.range k).map s.streamByte := by
  rw [State.fetchN_trace, TracePort.emitAll_emitted, State.streamBytes_eq_map]

/-- A step runs the meaning of what the decoder answers, after fetching its bytes. -/
theorem step_of_decodeNext {s : State} {i : Instr} (h : s.decodeNext = .ok i) :
    step s = exec i (State.fetchN i.length s) := by
  simp only [step, h]

/-- Settles O27: the step by its definition, the fetches by what they do to PC and the trace. -/
theorem stepRunsDecodedInstruction : Obligations.StepRunsDecodedInstruction := by
  refine fun s i hd => ⟨step_of_decodeNext hd, s.fetchN_emitted _, ?_⟩
  rw [← State.fetchN_pc]
  exact State.fetchN_eq _ s

/-- The encoding of the instruction decoded at PC is the bytes its fetches return. -/
theorem encode_of_decodeNext {s : State} {i : Instr} (h : s.decodeNext = .ok i) :
    encode i = (List.range i.length).map s.streamByte := by
  have henc : encode i = ((List.range 4).map s.streamByte).take i.length := encode_of_decode h
  have hlen : i.length ≤ 4 := by rw [Instr.length, henc]; exact List.length_take_le' _ _
  rw [henc, ← List.map_take, List.take_range, Nat.min_eq_left hlen]

theorem fetchesAt_of_decodeNext {s : State} {i : Instr} (h : s.decodeNext = .ok i) : FetchesAt s i := by
  intro k hk
  rw [encode_of_decodeNext h, ← State.streamByte_eq]
  simp [hk]

/-- Settles O29: the meaning of the instruction leaves PC and the trace as its fetches left them. -/
theorem stepEmitsExactlyItsBytes : Obligations.StepEmitsExactlyItsBytes := by
  intro s t i hd ht
  obtain ⟨j, hd', hj, hexec⟩ := step_next_cases ht
  obtain rfl : j = i := by simpa [hd] using hd'.symm
  obtain ⟨hpc, htrace⟩ := (exec_effect hj hexec).keeps_pc_and_trace
  have hbytes : t.trace = s.trace.emitAll (encode j) := by
    rw [htrace, State.fetchN_trace, State.streamBytes_eq_map, encode_of_decodeNext hd]
  rw [hbytes]
  exact ⟨hpc.trans (State.fetchN_pc _ s), TracePort.emitAll_emitted _ _, TracePort.emitAll_attached _ _,
    TracePort.emitAll_delivered _ _, fetchesAt_of_decodeNext hd⟩

end Sys2Proof.Machine
end

section
/-! The handlers: a prefix handler runs the slot of its own table, and the step that decodes first is the one
that fetches byte by byte (40_step_dispatch.md R90 to R97). -/

namespace Sys2Proof.Machine

@[simp] theorem State.streamByte_fetch8 (s : State) (k : Nat) :
    s.fetch8.2.streamByte k = s.streamByte (k + 1) := rfl

/-- One fetch and then `k - 1` are `k` fetches. -/
theorem State.fetchN_sub_one_fetch8 {k : Nat} (hk : 1 ≤ k) (s : State) :
    State.fetchN (k - 1) s.fetch8.2 = State.fetchN k s := by
  obtain ⟨m, rfl⟩ := Nat.exists_eq_add_of_le' hk
  rfl

/-- A slot that holds an instruction, run after the fetch of the byte that selects it. -/
theorem runSlot_fetch8_of_fill_eq_some {sl : Slot} {s : State} {i : Instr}
    (h : sl.fill (s.streamByte 1) (s.streamByte 2) = some i) (pfx : Option Byte) (n : Nat) (op : Byte) :
    runSlot pfx n op sl s.fetch8.2 = exec i (State.fetchN (i.length - n) s.fetch8.2) := by
  simp only [runSlot, State.streamByte_fetch8, h]

/-- A slot that holds none, run after that fetch. -/
theorem runSlot_fetch8_of_fill_eq_none {sl : Slot} {s : State}
    (h : sl.fill (s.streamByte 1) (s.streamByte 2) = none) (pfx : Option Byte) (n : Nat) (op : Byte) :
    runSlot pfx n op sl s.fetch8.2 = raiseUnknownOpcode pfx op (State.fetchN 1 s) := by
  simp only [runSlot, State.streamByte_fetch8, h]
  rfl

/-- The handler of a prefix has fetched the prefix byte already and fetches the rest of the instruction. -/
theorem exec_prefixInstr_of_fill_eq_some {p : Prefix} {s : State} {i : Instr}
    (h : (p.slot (s.streamByte 0)).fill (s.streamByte 1) (s.streamByte 2) = some i) :
    exec p.instr s = exec i (State.fetchN (i.length - 1) s) := by
  have hlen : 2 ≤ i.length := Slot.length_le (p.slot_encodedAs _).1 h
  rw [exec_prefixInstr, runSlot_fetch8_of_fill_eq_some h, ← State.fetchN_sub_one_fetch8 (by omega) s]
  rfl

theorem exec_prefixInstr_of_fill_eq_none {p : Prefix} {s : State}
    (h : (p.slot (s.streamByte 0)).fill (s.streamByte 1) (s.streamByte 2) = none) :
    exec p.instr s = raiseUnknownOpcode (some p.byte) (s.streamByte 0) (State.fetchN 1 s) := by
  rw [exec_prefixInstr, runSlot_fetch8_of_fill_eq_none h]

/-- A prefix byte at PC: whether or not its table has a slot for the byte after it, the step is the prefix
handler after one fetch. -/
theorem step_of_prefixByte {s : State} {p : Prefix} (hp : s.streamByte 0 = p.byte) :
    step s = exec p.instr s.fetch8.2 := by
  have hd : s.decodeNext =
      .ok (((p.slot (s.streamByte 1)).fill (s.streamByte 2) (s.streamByte 3)).getD p.instr) := by
    rw [State.decodeNext, hp, decode_prefixByte]
  cases hf : (p.slot (s.streamByte 1)).fill (s.streamByte 2) (s.streamByte 3) with
  | none =>
    rw [hf, Option.getD_none] at hd
    rw [step_of_decodeNext hd, Instr.length, p.encode_instr]
    rfl
  | some i =>
    rw [hf, Option.getD_some] at hd
    have hlen : 2 ≤ i.length := Slot.length_le (p.slot_encodedAs _).1 hf
    have hexec : exec p.instr s.fetch8.2 = _ := exec_prefixInstr_of_fill_eq_some hf
    rw [step_of_decodeNext hd, hexec, State.fetchN_sub_one_fetch8 (by omega)]

/-- Settles O22: the step at a prefix byte, the handler on a populated and on an unpopulated slot, and the
slots of the prefix bytes. -/
theorem prefixHandlersSelectTheirTable : Obligations.PrefixHandlersSelectTheirTable := by
  refine ⟨fun _ _ => step_of_prefixByte, fun p s i hf => ?_, fun _ _ => exec_prefixInstr_of_fill_eq_none,
    fun p q => slot_unpopulated_of_halt_or_prefixByte p (.inr ⟨q, rfl⟩)⟩
  have hexec := exec_prefixInstr_of_fill_eq_some hf
  have hi : i.wellFormed = true := (Slot.fill_some (p.slot_encodedAs _).1 hf).1
  exact ⟨hexec, hexec ▸ exec_completes hi _⟩

theorem mainHandler_prefixByte (p : Prefix) (s : State) : mainHandler p.byte s = exec p.instr s := by
  rw [mainHandler_eq, mainSlot_prefixByte]

theorem mainHandler_of_isPrefixed_eq_false {op : Byte} (h : (mainSlot op).isPrefixed = false) (s : State) :
    mainHandler op s = runSlot none 1 op (mainSlot op) s := by
  rw [mainHandler_eq]
  split
  next p hp => simp [hp, Slot.isPrefixed] at h
  next => rfl

/-- A byte at PC that is no prefix byte: the step runs its slot of `main` after one fetch. -/
theorem step_of_isPrefixed_eq_false {s : State} (h : (mainSlot (s.streamByte 0)).isPrefixed = false) :
    step s = runSlot none 1 (s.streamByte 0) (mainSlot (s.streamByte 0)) s.fetch8.2 := by
  have hd : s.decodeNext = ((mainSlot (s.streamByte 0)).fill (s.streamByte 1) (s.streamByte 2)).elim
      (.unknownOpcode (s.streamByte 0)) .ok := decode_of_isPrefixed_eq_false h _ _ _
  cases hf : (mainSlot (s.streamByte 0)).fill (s.streamByte 1) (s.streamByte 2) with
  | none =>
    rw [hf, Option.elim_none] at hd
    rw [runSlot_fetch8_of_fill_eq_none hf]
    simp only [step, hd]
  | some i =>
    rw [hf, Option.elim_some] at hd
    have hlen : 1 ≤ i.length := Slot.length_le (mainSlot_encodedAs _) hf
    rw [step_of_decodeNext hd, runSlot_fetch8_of_fill_eq_some hf, State.fetchN_sub_one_fetch8 hlen]

/-- Settles O30: by the first byte, which is a prefix byte or leads to no other table. -/
theorem stepIsByteByByteStep : Obligations.StepIsByteByByteStep := by
  intro s
  change step s = mainHandler (s.streamByte 0) s.fetch8.2
  obtain hmain | ⟨p, hp⟩ := mainSlot_notPrefixed_or_prefixByte (s.streamByte 0)
  · rw [step_of_isPrefixed_eq_false hmain, mainHandler_of_isPrefixed_eq_false hmain]
  · rw [step_of_prefixByte hp, hp, mainHandler_prefixByte]

end Sys2Proof.Machine
end

section
/-! Noninterference: the trace output is written by fetches and read by nothing (40_step_dispatch.md R93,
10_state.md R22). -/

namespace Sys2Proof.Machine
open Sys2Proof.Claims

/-- `s` with another trace output. -/
def State.setTrace (p : TracePort) (s : State) : State := { s with trace := p }

theorem mapState_mapState (f g : State → State) (r : Result) :
    mapState f (mapState g r) = mapState (f ∘ g) r := by
  obtain t | ⟨_, _, t⟩ | r := r <;> rfl

/-- The same bytes are fetched whatever the trace output holds. -/
theorem State.streamByte_setTrace (p : TracePort) (s : State) (k : Nat) :
    (s.setTrace p).streamByte k = s.streamByte k := by
  rw [State.streamByte_eq, State.streamByte_eq]
  rfl

theorem State.decodeNext_setTrace (p : TracePort) (s : State) :
    (s.setTrace p).decodeNext = s.decodeNext := by
  simp only [State.decodeNext, State.streamByte_setTrace]

theorem State.fetchN_setTrace (p : TracePort) (s : State) (k : Nat) :
    State.fetchN k (s.setTrace p) = (State.fetchN k s).setTrace (State.fetchN k (s.setTrace p)).trace := by
  rw [State.fetchN_eq k (s.setTrace p), State.fetchN_eq k s, State.fetchN_pc, State.fetchN_pc]
  rfl

/-- A meaning carries the trace output through and looks at nothing of it. -/
theorem exec_setTrace {i : Instr} (hi : i.wellFormed = true) (p : TracePort) (s : State) :
    exec i (s.setTrace p) = mapState (State.setTrace p) (exec i s) := by
  cases i
  case prefix_DD | prefix_FD | prefix_ED => exact absurd hi Bool.false_ne_true
  all_goals rfl

/-- Another trace output changes the outcome of a step in its trace output alone. -/
theorem step_setTrace (p : TracePort) (s : State) :
    ∃ q, step (s.setTrace p) = mapState (State.setTrace q) (step s) := by
  have hdecode := s.decodeNext_setTrace p
  cases hd : s.decodeNext with
  | unknownOpcode op =>
    refine ⟨(State.fetchN 1 (s.setTrace p)).trace, ?_⟩
    simp only [step, hdecode, hd]
    rfl
  | ok i =>
    obtain hi | ⟨x, rfl, hu⟩ := decode_ok_cases hd
    · refine ⟨(State.fetchN i.length (s.setTrace p)).trace, ?_⟩
      rw [step_of_decodeNext hd, step_of_decodeNext (hdecode.trans hd), State.fetchN_setTrace, exec_setTrace hi]
      rfl
    · refine ⟨(State.fetchN 2 (s.setTrace p)).trace, ?_⟩
      rw [step_of_unpopulated_after_prefix hd hu,
        step_of_unpopulated_after_prefix (hdecode.trans hd) (by rwa [State.streamByte_setTrace]),
        State.streamByte_setTrace]
      rfl

/-- Settles O43: the step from the other trace output is the same but for the trace output, and that is what
the statement takes away. -/
theorem traceIsObservationOnly : Obligations.TraceIsObservationOnly := by
  intro s p
  change mapState (State.setTrace noTrace) (step (s.setTrace p)) = mapState (State.setTrace noTrace) (step s)
  obtain ⟨q, hq⟩ := step_setTrace p s
  rw [hq, mapState_mapState]
  rfl

end Sys2Proof.Machine
end

section
/-! The address of an indexed operand (40_step_dispatch.md R99). -/

namespace Sys2Proof.Machine

/-- The displacement as a word: itself up to 0x7F, from 0x80 on 0xFF00 more. -/
theorem toNat_sext16 (d : Byte) :
    (sext16 d).toNat = if d.toNat ≤ 0x7F then d.toNat else 0xFF00 + d.toNat := by
  have hd : d.toNat < 256 := d.isLt
  unfold sext16
  split
  · rw [BitVec.toNat_setWidth_of_le (by decide)]
  · rw [BitVec.toNat_add, BitVec.toNat_setWidth_of_le (by decide)]
    exact Nat.mod_eq_of_lt (show 0xFF00 + d.toNat < 65536 by omega)

theorem State.toNat_indexed (s : State) (x : Index) (d : Byte) :
    (s.indexed x d).toNat =
      ((s.index x).toNat + if d.toNat ≤ 0x7F then d.toNat else 0xFF00 + d.toNat) % 65536 := by
  rw [State.indexed, BitVec.toNat_add, toNat_sext16]

/-- Settles O32: each clause by the value of the extended displacement, on either side of 0x80. -/
theorem indexedAddressIsSignedSum : Obligations.IndexedAddressIsSignedSum := by
  intro s x d
  have haddr := s.toNat_indexed x d
  have hd : d.toNat < 256 := d.isLt
  refine ⟨?_, fun hpos => ?_, fun hneg => BitVec.eq_of_toNat_eq ?_⟩
  · rw [haddr, BitVec.toInt_eq_toNat_cond]
    split <;> split <;> omega
  · rw [haddr, if_pos hpos]
  · rw [haddr, if_neg (by omega), BitVec.toNat_sub, BitVec.toNat_ofNat]
    omega

end Sys2Proof.Machine
end

/-! # The family 41_ld8: the 8-bit loads -/

section
/-! The 8-bit loads by their operands: the bytes of each form, and its effect, which is one register written
or one byte stored (41_ld8.md R110 to R130). -/

namespace Sys2Proof.Machine
open Sys2Proof.Claims

/-! ### The operand bytes -/

/-- The extension of the spec, `0xFF00` added from 0x80 on, is the sign extension (40_step_dispatch.md R99). -/
theorem sext16_eq_signExtend (d : Byte) : sext16 d = d.signExtend 16 := by
  have hmsb : d.msb = decide (0x80 ≤ d.toNat) := BitVec.msb_eq_decide d
  apply BitVec.eq_of_toNat_eq
  rw [toNat_sext16, BitVec.toNat_signExtend, BitVec.toNat_setWidth_of_le (by decide), hmsb]
  by_cases hd : d.toNat ≤ 0x7F
  · simp [hd, show ¬0x80 ≤ d.toNat by omega]
  · simp [hd, show 0x80 ≤ d.toNat by omega, Nat.add_comm]

theorem State.indexed_eq_add_signExtend (s : State) (x : Index) (d : Byte) :
    s.indexed x d = s.index x + d.signExtend 16 := by
  rw [State.indexed, sext16_eq_signExtend]

/-- A register written with its own value. -/
@[simp] theorem State.setReg8_reg8_same (s : State) (r : Reg8) : s.setReg8 r (s.reg8 r) = s := by
  cases r <;> rfl

/-! ### The encodings (30_encoding.md R62 to R68) -/

theorem encode_ldRegReg (d r : Reg8) : encode (.ldRegReg d r) = [0x40 + 8 * d.code + r.code] := by
  cases d <;> cases r <;> rfl

theorem encode_ldRegImm (d : Reg8) (n : Byte) : encode (.ldRegImm d n) = [0x06 + 8 * d.code, n] := by
  cases d <;> rfl

theorem encode_ldRegAtHL (d : Reg8) : encode (.ldRegAtHL d) = [0x46 + 8 * d.code] := by
  cases d <;> rfl

theorem encode_ldRegAtIndex (x : Index) (d : Reg8) (disp : Byte) :
    encode (.ldRegAtIndex x d disp) = [x.prefixByte, 0x46 + 8 * d.code, disp] := by
  cases x <;> cases d <;> rfl

theorem encode_ldAtHLReg (r : Reg8) : encode (.ldAtHLReg r) = [0x70 + r.code] := by
  cases r <;> rfl

theorem encode_ldAtIndexReg (x : Index) (r : Reg8) (disp : Byte) :
    encode (.ldAtIndexReg x r disp) = [x.prefixByte, 0x70 + r.code, disp] := by
  cases x <;> cases r <;> rfl

theorem encode_ldAtIndexImm (x : Index) (disp n : Byte) :
    encode (.ldAtIndexImm x disp n) = [x.prefixByte, 0x36, disp, n] := by
  cases x <;> rfl

/-! ### The effects of the forms that load a register -/

theorem hasEffect_ldRegReg (d r : Reg8) : HasEffect (.ldRegReg d r) fun s => s.setReg8 d (s.reg8 r) := by
  cases d <;> cases r <;> exact hasEffect_of_exec rfl fun _ => rfl

theorem hasEffect_ldRegImm (d : Reg8) (n : Byte) : HasEffect (.ldRegImm d n) fun s => s.setReg8 d n := by
  cases d <;> exact hasEffect_of_exec rfl fun _ => rfl

theorem hasEffect_ldRegAtHL (d : Reg8) :
    HasEffect (.ldRegAtHL d) fun s => s.setReg8 d (s.readByte s.hl) := by
  cases d <;> exact hasEffect_of_exec rfl fun _ => rfl

theorem hasEffect_ldRegAtIndex (x : Index) (d : Reg8) (disp : Byte) :
    HasEffect (.ldRegAtIndex x d disp) fun s => s.setReg8 d (s.readByte (s.indexed x disp)) := by
  cases x <;> cases d <;> exact hasEffect_of_exec rfl fun _ => rfl

theorem hasEffect_ld_A_atBC : HasEffect .ld_A_atBC fun s => s.setReg8 .A (s.readByte s.bc) :=
  hasEffect_of_exec rfl fun _ => rfl

theorem hasEffect_ld_A_atDE : HasEffect .ld_A_atDE fun s => s.setReg8 .A (s.readByte s.de) :=
  hasEffect_of_exec rfl fun _ => rfl

theorem hasEffect_ld_A_atNN (nn : Word) :
    HasEffect (.ld_A_atNN nn) fun s => s.setReg8 .A (s.readByte nn) :=
  hasEffect_of_exec rfl fun _ => rfl

theorem hasEffect_ld_A_I : HasEffect .ld_A_I fun s => s.setReg8 .A s.i :=
  hasEffect_of_exec rfl fun _ => rfl

theorem hasEffect_ld_A_R : HasEffect .ld_A_R fun s => s.setReg8 .A s.r :=
  hasEffect_of_exec rfl fun _ => rfl

theorem hasEffect_ld_I_A : HasEffect .ld_I_A fun s => s.setI s.a :=
  hasEffect_of_exec rfl fun _ => rfl

theorem hasEffect_ld_R_A : HasEffect .ld_R_A fun s => s.setR s.a :=
  hasEffect_of_exec rfl fun _ => rfl

/-! ### The effects of the forms that store a byte -/

theorem hasEffect_ld_atHL_n (n : Byte) : HasEffect (.ld_atHL_n n) fun s => s.writeByte s.hl n :=
  hasEffect_of_exec rfl fun _ => rfl

theorem hasEffect_ld_atBC_A : HasEffect .ld_atBC_A fun s => s.writeByte s.bc s.a :=
  hasEffect_of_exec rfl fun _ => rfl

theorem hasEffect_ld_atDE_A : HasEffect .ld_atDE_A fun s => s.writeByte s.de s.a :=
  hasEffect_of_exec rfl fun _ => rfl

theorem hasEffect_ld_atNN_A (nn : Word) : HasEffect (.ld_atNN_A nn) fun s => s.writeByte nn s.a :=
  hasEffect_of_exec rfl fun _ => rfl

/-! ### The statements on effects -/

/-- Settles O1: the opcode and the effect by the two operands; a self-copy writes the value that is there. -/
theorem ldRegRegCopiesSource : Obligations.LdRegRegCopiesSource :=
  fun d r => ⟨encode_ldRegReg d r, hasEffect_ldRegReg d r, fun s => s.setReg8_reg8_same d⟩

/-- Settles O2, by the bytes and the effect of `LD r,n`. -/
theorem ldRegImmLoadsImmediate : Obligations.LdRegImmLoadsImmediate :=
  fun d n => ⟨encode_ldRegImm d n, hasEffect_ldRegImm d n⟩

/-- Settles O3: the effect reads the byte in the state before, so H and L are no exception. -/
theorem ldRegAtHLLoadsByte : Obligations.LdRegAtHLLoadsByte :=
  fun d => ⟨encode_ldRegAtHL d, hasEffect_ldRegAtHL d⟩

/-- Settles O4: the model's indexed address is the sum with the sign-extended displacement. -/
theorem ldRegAtIndexLoadsByte : Obligations.LdRegAtIndexLoadsByte := by
  refine fun x d disp => ⟨encode_ldRegAtIndex x d disp, ?_⟩
  simpa only [State.indexed_eq_add_signExtend] using hasEffect_ldRegAtIndex x d disp

/-- Settles O5, by the bytes and the effects of the two forms. -/
theorem ldAtHLStoresByte : Obligations.LdAtHLStoresByte :=
  ⟨fun r => ⟨encode_ldAtHLReg r, hasEffect_ldAtHLReg r⟩, fun n => ⟨rfl, hasEffect_ld_atHL_n n⟩⟩

/-- Settles O6: the model's indexed address is the sum with the sign-extended displacement. -/
theorem ldAtIndexStoresByte : Obligations.LdAtIndexStoresByte := by
  refine ⟨fun x r disp => ⟨encode_ldAtIndexReg x r disp, ?_⟩,
    fun x disp n => ⟨encode_ldAtIndexImm x disp n, ?_⟩⟩
  · simpa only [State.indexed_eq_add_signExtend] using hasEffect_ldAtIndexReg x r disp
  · simpa only [State.indexed_eq_add_signExtend] using hasEffect_ldAtIndexImm x disp n

/-- Settles O7, by the effects of the six forms. -/
theorem accumulatorMemoryForms : Obligations.AccumulatorMemoryForms :=
  ⟨hasEffect_ld_A_atBC, hasEffect_ld_A_atDE, hasEffect_ld_A_atNN,
    hasEffect_ld_atBC_A, hasEffect_ld_atDE_A, hasEffect_ld_atNN_A⟩

/-- Settles O8: the writes of A, I and R are updates of one field. -/
theorem accumulatorImpliedForms : Obligations.AccumulatorImpliedForms :=
  ⟨hasEffect_ld_A_I, hasEffect_ld_A_R, hasEffect_ld_I_A, hasEffect_ld_R_A⟩

end Sys2Proof.Machine
end

section
/-! What the 8-bit loads leave unchanged: a form that loads a register writes it as the host would, and a byte
store changes the byte at its address (41_ld8.md R131). -/

namespace Sys2Proof.Machine
open Sys2Proof.Claims

/-- An instruction has the frame of its effect. -/
theorem frame_of_hasEffect {i : Instr} {eff : State → State} {ws8 : List HostReg8} {ws16 : List HostReg16}
    {as : List Word} {s t : State} (heff : HasEffect i eff) (hframe : Frame ws8 ws16 as s (eff s))
    (ht : exec i s = .next t) : Frame ws8 ws16 as s t := by
  obtain rfl : eff s = t := Host.Outcome.next.inj ((heff.1 s).symm.trans ht)
  exact hframe

/-- The register operand `r` is written as the host writes the register. -/
theorem State.setReg8_eq_hostWrite8 (s : State) (r : Reg8) (v : Byte) :
    s.setReg8 r v = s.hostWrite8 (hostName r) v := by
  cases r <;> rfl

theorem State.setReg8_frame (s : State) (r : Reg8) (v : Byte) :
    Frame [hostName r] [] [] s (s.setReg8 r v) := by
  rw [State.setReg8_eq_hostWrite8]
  exact s.hostWrite8_frame _ v

/-- A byte store reaches its address alone; in canonical memory every other byte reads as before. -/
theorem State.writeByte_frame {s : State} (hwf : Memory.wf s.mem = true) (a : Word) (v : Byte) :
    Frame [] [] [a] s (s.writeByte a v) := by
  refine ⟨fun x _ => by cases x <;> rfl, fun x _ _ => by cases x <;> rfl, rfl, rfl, rfl, fun b hb => ?_⟩
  rw [State.readByte_writeByte hwf, if_neg (by simpa using hb)]

/-- Settles O33: each form writes one register, as the host would. -/
theorem ld8RegisterFormsFrame : Obligations.Ld8RegisterFormsFrame := by
  refine fun s t => ⟨fun d r => frame_of_hasEffect (hasEffect_ldRegReg d r) (s.setReg8_frame d _),
    fun d n => frame_of_hasEffect (hasEffect_ldRegImm d n) (s.setReg8_frame d _),
    fun d => frame_of_hasEffect (hasEffect_ldRegAtHL d) (s.setReg8_frame d _),
    fun x d disp => frame_of_hasEffect (hasEffect_ldRegAtIndex x d disp) (s.setReg8_frame d _),
    fun nn i hi => ?_,
    frame_of_hasEffect hasEffect_ld_I_A (s.hostWrite8_frame .I _),
    frame_of_hasEffect hasEffect_ld_R_A (s.hostWrite8_frame .R _)⟩
  obtain rfl | rfl | rfl | rfl | rfl : i = .ld_A_atBC ∨ i = .ld_A_atDE ∨ i = .ld_A_atNN nn ∨
    i = .ld_A_I ∨ i = .ld_A_R := by simpa using hi
  · exact frame_of_hasEffect hasEffect_ld_A_atBC (s.setReg8_frame .A _)
  · exact frame_of_hasEffect hasEffect_ld_A_atDE (s.setReg8_frame .A _)
  · exact frame_of_hasEffect (hasEffect_ld_A_atNN nn) (s.setReg8_frame .A _)
  · exact frame_of_hasEffect hasEffect_ld_A_I (s.setReg8_frame .A _)
  · exact frame_of_hasEffect hasEffect_ld_A_R (s.setReg8_frame .A _)

/-- Settles O34: each form stores one byte. -/
theorem ld8StoreFormsFrame : Obligations.Ld8StoreFormsFrame :=
  fun _ _ hwf =>
    have hframe := State.writeByte_frame hwf
    ⟨fun r => frame_of_hasEffect (hasEffect_ldAtHLReg r) (hframe _ _),
      fun n => frame_of_hasEffect (hasEffect_ld_atHL_n n) (hframe _ _),
      fun x r d => frame_of_hasEffect (hasEffect_ldAtIndexReg x r d) (hframe _ _),
      fun x d n => frame_of_hasEffect (hasEffect_ldAtIndexImm x d n) (hframe _ _),
      frame_of_hasEffect hasEffect_ld_atBC_A (hframe _ _),
      frame_of_hasEffect hasEffect_ld_atDE_A (hframe _ _),
      fun nn => frame_of_hasEffect (hasEffect_ld_atNN_A nn) (hframe _ _)⟩

end Sys2Proof.Machine
end

/-! # The family 42_ld16: the 16-bit loads -/

section
/-! The 16-bit loads by their operands: the bytes of each form, and its effect, which is one 16-bit register
written or one word stored (42_ld16.md R140 to R153). The effects of the forms that store a pair or an index
register stand with the stored bytes as instruction stream. -/

namespace Sys2Proof.Machine
open Sys2Proof.Claims

/-! ### The encodings (30_encoding.md R64 to R69) -/

theorem encode_ldPairImm (p : Pair) (nn : Word) :
    encode (.ldPairImm p nn) = [0x01 + 16 * p.code, lowByte nn, highByte nn] := by
  cases p <;> rfl

theorem encode_ldPairAtNN (p : Pair) (nn : Word) :
    encode (.ldPairAtNN p nn) = [0xED, 0x4B + 16 * p.code, lowByte nn, highByte nn] := by
  cases p <;> rfl

theorem encode_ldIndexAtNN (x : Index) (nn : Word) :
    encode (.ldIndexAtNN x nn) = [x.prefixByte, 0x2A, lowByte nn, highByte nn] := by
  cases x <;> rfl

theorem encode_ldAtNNPair (p : Pair) (nn : Word) :
    encode (.ldAtNNPair p nn) = [0xED, 0x43 + 16 * p.code, lowByte nn, highByte nn] := by
  cases p <;> rfl

theorem encode_ldAtNNIndex (x : Index) (nn : Word) :
    encode (.ldAtNNIndex x nn) = [x.prefixByte, 0x22, lowByte nn, highByte nn] := by
  cases x <;> rfl

/-! ### The effects of the forms that load a 16-bit register -/

theorem hasEffect_ldPairImm (p : Pair) (nn : Word) : HasEffect (.ldPairImm p nn) fun s => s.setPair p nn := by
  cases p <;> exact hasEffect_of_exec rfl fun _ => rfl

theorem hasEffect_ldPairAtNN (p : Pair) (nn : Word) :
    HasEffect (.ldPairAtNN p nn) fun s => s.setPair p (s.readWord nn) := by
  cases p <;> exact hasEffect_of_exec rfl fun _ => rfl

theorem hasEffect_ld_HL_atNN (nn : Word) :
    HasEffect (.ld_HL_atNN nn) fun s => s.setPair .HL (s.readWord nn) :=
  hasEffect_of_exec rfl fun _ => rfl

theorem hasEffect_ldIndexImm (x : Index) (nn : Word) :
    HasEffect (.ldIndexImm x nn) fun s => s.setIndex x nn := by
  cases x <;> exact hasEffect_of_exec rfl fun _ => rfl

theorem hasEffect_ldIndexAtNN (x : Index) (nn : Word) :
    HasEffect (.ldIndexAtNN x nn) fun s => s.setIndex x (s.readWord nn) := by
  cases x <;> exact hasEffect_of_exec rfl fun _ => rfl

theorem hasEffect_ld_SP_HL : HasEffect .ld_SP_HL fun s => s.setSP s.hl :=
  hasEffect_of_exec rfl fun _ => rfl

theorem hasEffect_ldSPIndex (x : Index) : HasEffect (.ldSPIndex x) fun s => s.setSP (s.index x) := by
  cases x <;> exact hasEffect_of_exec rfl fun _ => rfl

/-! ### The effect of the store of HL in table `main` -/

theorem hasEffect_ld_atNN_HL (nn : Word) : HasEffect (.ld_atNN_HL nn) fun s => s.writeWord nn s.hl :=
  hasEffect_of_exec rfl fun _ => rfl

/-! ### The statements on effects -/

/-- Settles O9, by the bytes and the effect of `LD dd,nn`. -/
theorem ldPairImmLoadsImmediate : Obligations.LdPairImmLoadsImmediate :=
  fun p nn => ⟨encode_ldPairImm p nn, hasEffect_ldPairImm p nn⟩

/-- Settles O10: the write of an index register is the update of its field. -/
theorem ldIndexImmLoadsImmediate : Obligations.LdIndexImmLoadsImmediate :=
  fun nn => ⟨rfl, rfl, hasEffect_ldIndexImm .IX nn, hasEffect_ldIndexImm .IY nn⟩

/-- Settles O11; `LD HL,(nn)` of table `ed` is the pair HL among the forms of that table. -/
theorem ldPairAtNNLoadsWord : Obligations.LdPairAtNNLoadsWord :=
  fun nn => ⟨rfl, hasEffect_ld_HL_atNN nn,
    fun p => ⟨encode_ldPairAtNN p nn, hasEffect_ldPairAtNN p nn⟩,
    fun x => ⟨encode_ldIndexAtNN x nn, hasEffect_ldIndexAtNN x nn⟩⟩

/-- Settles O12; `LD (nn),HL` of table `ed` is the pair HL among the forms of that table. -/
theorem ldAtNNPairStoresWord : Obligations.LdAtNNPairStoresWord :=
  fun nn => ⟨rfl, hasEffect_ld_atNN_HL nn,
    fun p => ⟨encode_ldAtNNPair p nn, hasEffect_ldAtNNPair p nn⟩,
    fun x => ⟨encode_ldAtNNIndex x nn, hasEffect_ldAtNNIndex x nn⟩⟩

/-- Settles O13: the write of SP is the update of its field. -/
theorem ldSPCopiesPair : Obligations.LdSPCopiesPair :=
  ⟨hasEffect_ld_SP_HL, hasEffect_ldSPIndex⟩

end Sys2Proof.Machine
end

section
/-! What the 16-bit loads leave unchanged: a form that loads a 16-bit register writes it as the host would, and
a word store changes the bytes at its two addresses (42_ld16.md R154). -/

namespace Sys2Proof.Machine
open Sys2Proof.Claims

theorem State.setSP_frame (s : State) (v : Word) : Frame [] [.SP] [] s (s.setSP v) :=
  s.hostWrite16_single_frame (x := .SP) v (by simp)

/-- Of the operands `dd`, SP is a register of its own, the others are pairs. -/
theorem State.setPair_frame (s : State) (p : Pair) (v : Word) :
    Frame (pairHalves p) (pairWide p) [] s (s.setPair p v) := by
  cases p with
  | BC => exact s.hostWrite16_pair_frame .BC v
  | DE => exact s.hostWrite16_pair_frame .DE v
  | HL => exact s.hostWrite16_pair_frame .HL v
  | SP => exact s.setSP_frame v

/-- An index register is written as the host writes it. -/
theorem State.setIndex_eq_hostWrite16 (s : State) (x : Index) (v : Word) :
    s.setIndex x v = s.hostWrite16 (indexName x) v := by
  cases x <;> rfl

theorem State.setIndex_frame (s : State) (x : Index) (v : Word) :
    Frame [] [indexName x] [] s (s.setIndex x v) := by
  rw [State.setIndex_eq_hostWrite16]
  exact s.hostWrite16_single_frame v (by cases x <;> simp [indexName])

/-- A word store reaches its two addresses alone; in canonical memory every other byte reads as before. -/
theorem State.writeWord_frame {s : State} (hwf : Memory.wf s.mem = true) (a v : Word) :
    Frame [] [] [a, a + 1#16] s (s.writeWord a v) := by
  refine ⟨fun x _ => by cases x <;> rfl, fun x _ _ => by cases x <;> rfl, rfl, rfl, rfl, fun b hb => ?_⟩
  obtain ⟨hlow, hhigh⟩ : b ≠ a ∧ b ≠ a + 1#16 := by simpa using hb
  rw [State.readByte_writeWord hwf, if_neg hhigh, if_neg hlow]

/-- Settles O35: each form writes one 16-bit register, as the host would. -/
theorem ld16RegisterFormsFrame : Obligations.Ld16RegisterFormsFrame :=
  fun s _ => ⟨fun p nn => frame_of_hasEffect (hasEffect_ldPairImm p nn) (s.setPair_frame p _),
    fun p nn => frame_of_hasEffect (hasEffect_ldPairAtNN p nn) (s.setPair_frame p _),
    fun nn => frame_of_hasEffect (hasEffect_ld_HL_atNN nn) (s.setPair_frame .HL _),
    fun x nn => frame_of_hasEffect (hasEffect_ldIndexImm x nn) (s.setIndex_frame x _),
    fun x nn => frame_of_hasEffect (hasEffect_ldIndexAtNN x nn) (s.setIndex_frame x _),
    frame_of_hasEffect hasEffect_ld_SP_HL (s.setSP_frame _),
    fun x => frame_of_hasEffect (hasEffect_ldSPIndex x) (s.setSP_frame _)⟩

/-- Settles O36: each form stores one word. -/
theorem ld16StoreFormsFrame : Obligations.Ld16StoreFormsFrame :=
  fun _ _ nn hwf =>
    have hframe := State.writeWord_frame hwf nn
    ⟨frame_of_hasEffect (hasEffect_ld_atNN_HL nn) (hframe _),
      fun p => frame_of_hasEffect (hasEffect_ldAtNNPair p nn) (hframe _),
      fun x => frame_of_hasEffect (hasEffect_ldAtNNIndex x nn) (hframe _)⟩

end Sys2Proof.Machine
end

/-! # The family 43_stack: PUSH and POP -/

section
/-! `Push16` and `Pop16`: the two bytes that they write and read, and what they leave unchanged
(43_stack.md R170, R171). -/

namespace Sys2Proof.Machine
open Sys2Proof.Claims

/-- Of two changes in a row: what neither reaches is unchanged. -/
theorem frame_trans {ws8 ws8' : List HostReg8} {ws16 ws16' : List HostReg16} {as as' : List Word}
    {s t u : State} (hst : Frame ws8 ws16 as s t) (htu : Frame ws8' ws16' as' t u) :
    Frame (ws8 ++ ws8') (ws16 ++ ws16') (as ++ as') s u := by
  obtain ⟨h8, h16, hhalted, hshadow, htrace, hmem⟩ := hst
  obtain ⟨h8', h16', hhalted', hshadow', htrace', hmem'⟩ := htu
  simp only [Frame, List.mem_append, not_or]
  exact ⟨fun x hx => (h8' x hx.2).trans (h8 x hx.1),
    fun x hwide hx => (h16' x hwide hx.2).trans (h16 x hwide hx.1), hhalted'.trans hhalted,
    hshadow'.trans hshadow, htrace'.trans htrace, fun a ha => (hmem' a ha.2).trans (hmem a ha.1)⟩

theorem State.readByte_push16_low {s : State} (hwf : Memory.wf s.mem = true) (v : Word) :
    (s.push16 v).readByte (s.sp - 2#16) = lowByte v := by
  rw [State.readByte_push16 hwf, if_pos rfl]

theorem State.readByte_push16_high {s : State} (hwf : Memory.wf s.mem = true) (v : Word) :
    (s.push16 v).readByte (s.sp - 1#16) = highByte v := by
  have hne : s.sp - 1#16 ≠ s.sp - 2#16 := by bv_omega
  rw [State.readByte_push16 hwf, if_neg hne, if_pos rfl]

/-- The word at the new SP is the one pushed, little-endian. -/
theorem State.readWord_push16 {s : State} (hwf : Memory.wf s.mem = true) (v : Word) :
    (s.push16 v).readWord (s.push16 v).sp = v := by
  have hhigh : s.sp - 2#16 + 1#16 = s.sp - 1#16 := by bv_omega
  rw [State.push16_sp, State.readWord, hhigh, State.readByte_push16_high hwf, State.readByte_push16_low hwf,
    word_highByte_lowByte]

/-- A push is two byte stores and a write of SP. -/
theorem State.push16_frame {s : State} (hwf : Memory.wf s.mem = true) (v : Word) :
    Frame [] [.SP] [s.sp - 1#16, s.sp - 2#16] s (s.push16 v) := by
  rw [State.push16_eq]
  have hstores := frame_trans (State.writeByte_frame hwf (s.sp - 1#16) (highByte v))
    (State.writeByte_frame (State.writeByte_wf hwf _ _) (s.sp - 2#16) (lowByte v))
  exact frame_trans hstores (State.setSP_frame _ _)

/-- A pop returns the word at SP. -/
theorem State.pop16_fst (s : State) : s.pop16.1 = s.readWord s.sp := rfl

theorem State.pop16_snd (s : State) : s.pop16.2 = s.setSP (s.sp + 2#16) := by
  rw [State.pop16_eq]

theorem State.pop16_frame (s : State) : Frame [] [.SP] [] s s.pop16.2 := by
  rw [State.pop16_snd]
  exact s.setSP_frame _

/-- A pop returns the word that a push before it left at SP. -/
theorem State.pop16_push16_fst {s : State} (hwf : Memory.wf s.mem = true) (v : Word) :
    (s.push16 v).pop16.1 = v :=
  State.readWord_push16 hwf v

/-- Settles O16: the two bytes, the word they make up, and the frame of the two stores. -/
theorem push16Layout : Obligations.Push16Layout := by
  refine fun s v hwf => ⟨s.push16_sp v, State.readByte_push16_high hwf v, State.readByte_push16_low hwf v,
    State.readWord_push16 hwf v, fun a hhigh hlow => ?_, State.push16_frame hwf v⟩
  rw [State.readByte_push16 hwf, if_neg hlow, if_neg hhigh]

/-- Settles O17: the value is the two bytes read, and the write of SP is the update of its field. -/
theorem pop16Layout : Obligations.Pop16Layout :=
  fun s => ⟨lowByte_word _ _, highByte_word _ _, s.pop16_snd⟩

end Sys2Proof.Machine
end

section
/-! PUSH and POP by their operand: the bytes of each form, its effect, its frame, and the round trip
(43_stack.md R172 to R178). The effects of the pushes stand with the stored bytes as instruction stream. -/

namespace Sys2Proof.Machine
open Sys2Proof.Claims

/-! ### The encodings (30_encoding.md R64) -/

theorem encode_push (p : StackPair) : encode (.push p) = [0xC5 + 16 * p.code] := by
  cases p <;> rfl

theorem encode_pushIndex (x : Index) : encode (.pushIndex x) = [x.prefixByte, 0xE5] := by
  cases x <;> rfl

theorem encode_pop (p : StackPair) : encode (.pop p) = [0xC1 + 16 * p.code] := by
  cases p <;> rfl

theorem encode_popIndex (x : Index) : encode (.popIndex x) = [x.prefixByte, 0xE1] := by
  cases x <;> rfl

/-! ### The effects of the pops -/

theorem hasEffect_pop (p : StackPair) :
    HasEffect (.pop p) fun s => s.pop16.2.setStackPair p s.pop16.1 := by
  cases p <;> exact hasEffect_of_exec rfl fun _ => rfl

theorem hasEffect_popIndex (x : Index) :
    HasEffect (.popIndex x) fun s => s.pop16.2.setIndex x s.pop16.1 := by
  cases x <;> exact hasEffect_of_exec rfl fun _ => rfl

/-- Settles O14, by the bytes and the effects of the pushes. -/
theorem pushInstructionsPush : Obligations.PushInstructionsPush :=
  ⟨fun p => ⟨encode_push p, hasEffect_push p⟩, fun x => ⟨encode_pushIndex x, hasEffect_pushIndex x⟩⟩

/-- Settles O15, by the bytes and the effects of the pops. -/
theorem popInstructionsPop : Obligations.PopInstructionsPop :=
  ⟨fun p => ⟨encode_pop p, hasEffect_pop p⟩, fun x => ⟨encode_popIndex x, hasEffect_popIndex x⟩⟩

/-! ### What the instructions leave unchanged -/

/-- A stack operand is written as the host writes the pair. -/
theorem State.setStackPair_eq_hostWrite16 (s : State) (p : StackPair) (v : Word) :
    s.setStackPair p v = s.hostWrite16 (wideName p) v := by
  cases p <;> rfl

theorem State.setStackPair_frame (s : State) (p : StackPair) (v : Word) :
    Frame [highHalf p, lowHalf p] [] [] s (s.setStackPair p v) := by
  rw [State.setStackPair_eq_hostWrite16]
  exact s.hostWrite16_pair_frame p v

/-- Settles O37: a push has the frame of `Push16`, a pop that of `Pop16` and then of its destination. -/
theorem stackInstructionsFrame : Obligations.StackInstructionsFrame :=
  ⟨fun _ _ hwf =>
    have hpush := State.push16_frame hwf
    ⟨fun p => frame_of_hasEffect (hasEffect_push p) (hpush _),
      fun x => frame_of_hasEffect (hasEffect_pushIndex x) (hpush _)⟩,
    fun s _ =>
    have hpop := s.pop16_frame
    ⟨fun p => frame_of_hasEffect (hasEffect_pop p) (frame_trans hpop (State.setStackPair_frame _ p _)),
      fun x => frame_of_hasEffect (hasEffect_popIndex x) (frame_trans hpop (State.setIndex_frame _ x _))⟩⟩

/-! ### The round trip (R178) -/

theorem State.stackPair_setStackPair_same (s : State) (p : StackPair) (v : Word) :
    (s.setStackPair p v).stackPair p = v := by
  cases p <;> exact word_highByte_lowByte v

@[simp] theorem State.fetchN_pop16_fst (k : Nat) (s : State) : (State.fetchN k s).pop16.1 = s.pop16.1 := by
  simp [State.pop16_fst, State.readWord]

@[simp] theorem stackValue_fetchN (k : Nat) (s : State) (p : StackPair ⊕ Index) :
    stackValue (State.fetchN k s) p = stackValue s p := by
  cases p with
  | inl p => exact State.fetchN_stackPair k s p
  | inr x => exact State.fetchN_index k s x

theorem hasEffect_pushOf (p : StackPair ⊕ Index) :
    HasEffect (pushOf p) fun s => s.push16 (stackValue s p) := by
  cases p with
  | inl p => exact hasEffect_push p
  | inr x => exact hasEffect_pushIndex x

/-- A step from a state in which the bytes of an instruction stand at PC has the instruction's effect. -/
theorem eq_of_hasEffect_of_step {i : Instr} {eff : State → State} {s t : State} (heff : HasEffect i eff)
    (hat : FetchesAt s i) (ht : step s = .next t) : t = eff (State.fetchN i.length s) :=
  Host.Outcome.next.inj (ht.symm.trans (heff.2 s hat))

/-- After a step that pushes, a pop would return the value of the source. -/
theorem pop16_fst_and_sp_of_step_pushOf {s t : State} {p : StackPair ⊕ Index} (hwf : Memory.wf s.mem = true)
    (hat : FetchesAt s (pushOf p)) (ht : step s = .next t) :
    t.pop16.1 = stackValue s p ∧ t.sp = s.sp - 2#16 := by
  obtain rfl := eq_of_hasEffect_of_step (hasEffect_pushOf p) hat ht
  rw [State.pop16_push16_fst (by rwa [State.fetchN_mem])]
  simp

/-- After a step that pops, the destination has the value that a pop before it would return. -/
theorem stackValue_and_sp_of_step_popOf {s t : State} {q : StackPair ⊕ Index} (hat : FetchesAt s (popOf q))
    (ht : step s = .next t) : stackValue t q = s.pop16.1 ∧ t.sp = s.sp + 2#16 := by
  cases q with
  | inl q =>
    obtain rfl := eq_of_hasEffect_of_step (hasEffect_pop q) hat ht
    simp [stackValue, State.stackPair_setStackPair_same]
  | inr x =>
    obtain rfl := eq_of_hasEffect_of_step (hasEffect_popIndex x) hat ht
    simp [stackValue]

/-- Settles O18: the push leaves the value where the pop looks for it, and takes from SP what the pop adds. -/
theorem pushThenPopRoundTrip : Obligations.PushThenPopRoundTrip := by
  refine ⟨fun s v hwf => ⟨State.pop16_push16_fst hwf v, by simp⟩, fun s t u p q hwf hs ht hat hu => ?_⟩
  obtain ⟨hpushed, hdown⟩ := pop16_fst_and_sp_of_step_pushOf hwf hs ht
  obtain ⟨hpopped, hup⟩ := stackValue_and_sp_of_step_popOf hat hu
  exact ⟨hpopped.trans hpushed, by rw [hup, hdown, BitVec.sub_add_cancel]⟩

end Sys2Proof.Machine
end

/-! # The family 44_halt: HALT, the Running and Halted states, and runs -/

section
/-! HALT itself (44_halt.md R180; 90_conflicts.md C2). -/

namespace Sys2Proof.Machine
open Sys2Proof.Claims

theorem hasEffect_halt : HasEffect .halt fun s => { s with halted := true } :=
  hasEffect_of_exec rfl fun _ => rfl

theorem frame_refl (s : State) : Frame [] [] [] s s :=
  ⟨fun _ _ => rfl, fun _ _ _ => rfl, rfl, rfl, rfl, fun _ _ => rfl⟩

/-- The one byte of HALT is fetched, which takes PC past it. -/
theorem step_of_fetchesAt_halt {s : State} (hat : FetchesAt s .halt) :
    step s = .next { s with halted := true, pc := s.pc + 1#16, trace := s.trace.emit 0x76 } := by
  have hbyte : s.readByte s.pc = 0x76 := by simpa [encode] using hat 0 (by decide)
  rw [hasEffect_halt.2 s hat, ← hbyte]
  rfl

/-- Settles O19: the meaning of HALT writes `halted` alone, and its fetch moves PC and the trace. -/
theorem haltSetsHaltedOnly : Obligations.HaltSetsHaltedOnly := by
  refine ⟨rfl, hasEffect_halt, fun _ => step_of_fetchesAt_halt, fun s hs => ?_, fun s t ht => ?_⟩
  · rw [hasEffect_halt.1, ← hs]
  · obtain rfl := Host.Outcome.next.inj ((hasEffect_halt.1 s).symm.trans ht)
    exact ⟨rfl, frame_refl s⟩

end Sys2Proof.Machine
end

section
/-! The Running and Halted states (44_halt.md R181, R182): no step looks at `halted`, and HALT alone writes
it, so a step from `s` with another value of `halted` is the step from `s` with that value carried through. -/

namespace Sys2Proof.Machine
open Sys2Proof.Claims

/-- `s` with another value of `halted`. -/
def State.setHalted (b : Bool) (s : State) : State := { s with halted := b }

theorem State.fetchN_setHalted (b : Bool) (k : Nat) (s : State) :
    State.fetchN k (s.setHalted b) = (State.fetchN k s).setHalted b := by
  induction k generalizing s with
  | zero => rfl
  | succ k ih => exact ih s.fetch8.2

theorem State.streamByte_setHalted (b : Bool) (s : State) (k : Nat) :
    (s.setHalted b).streamByte k = s.streamByte k := by
  rw [State.streamByte, State.fetchN_setHalted]
  rfl

theorem State.decodeNext_setHalted (b : Bool) (s : State) : (s.setHalted b).decodeNext = s.decodeNext := by
  simp only [State.decodeNext, State.streamByte_setHalted]

/-- Every meaning but that of HALT carries `halted` through and looks at nothing of it. -/
theorem exec_setHalted {i : Instr} (hi : i.wellFormed = true) (hne : i ≠ .halt) (b : Bool) (s : State) :
    exec i (s.setHalted b) = mapState (State.setHalted b) (exec i s) := by
  cases i
  case prefix_DD | prefix_FD | prefix_ED => exact absurd hi Bool.false_ne_true
  case halt => exact absurd rfl hne
  all_goals rfl

/-- A step that does not run HALT carries `halted` through, also where it faults. -/
theorem step_setHalted {s : State} (hne : s.decodeNext ≠ .ok .halt) (b : Bool) :
    step (s.setHalted b) = mapState (State.setHalted b) (step s) := by
  have hdecode := s.decodeNext_setHalted b
  cases hd : s.decodeNext with
  | unknownOpcode op =>
    simp only [step, hdecode, hd, State.fetchN_setHalted]
    rfl
  | ok i =>
    obtain hi | ⟨p, rfl, hu⟩ := decode_ok_cases hd
    · have hi_ne : i ≠ .halt := fun h => hne (h ▸ hd)
      rw [step_of_decodeNext hd, step_of_decodeNext (hdecode.trans hd), State.fetchN_setHalted,
        exec_setHalted hi hi_ne]
    · rw [step_of_unpopulated_after_prefix hd hu,
        step_of_unpopulated_after_prefix (hdecode.trans hd) (by rwa [State.streamByte_setHalted]),
        State.streamByte_setHalted, State.fetchN_setHalted]
      rfl

/-- A step that runs HALT fetches its byte and ends Halted, from a Running and from a Halted state. -/
theorem step_of_decodeNext_halt {s : State} (hd : s.decodeNext = .ok .halt) :
    step s = .next ((State.fetchN 1 s).setHalted true) :=
  (step_of_decodeNext hd).trans (hasEffect_halt.1 _)

theorem halted_of_step_halt {s t : State} (hd : s.decodeNext = .ok .halt) (ht : step s = .next t) :
    t.halted = true := by
  obtain rfl := Host.Outcome.next.inj ((step_of_decodeNext_halt hd).symm.trans ht)
  rfl

/-- Any other step leaves `halted` as it was: it carries through the value that `s` has. -/
theorem stateAfter_step_halted {s : State} (hne : s.decodeNext ≠ .ok .halt) :
    (stateAfter s (step s)).halted = s.halted := by
  have hcarried : step s = mapState (State.setHalted s.halted) (step s) := step_setHalted hne s.halted
  rw [hcarried]
  obtain t | ⟨p, op, t⟩ | r := step s <;> rfl

/-- No action of the host but a step and Reset writes `halted`. -/
theorem hostAct_halted (s : State) {act : HostAction} (hstep : act ≠ .step) (hreset : act ≠ .reset) :
    (hostAct act s).halted = s.halted := by
  cases act with
  | step => exact absurd rfl hstep
  | reset => exact absurd rfl hreset
  | write8 r v => exact State.hostWrite8_halted s r v
  | write16 r v => exact State.hostWrite16_halted s r v
  | setByte a v => exact State.writeByte_halted s a v
  | setWord a v => exact State.writeWord_halted s a v
  | attach on => exact State.hostAttach_halted s on

/-- Settles O20: a step by whether it runs HALT, which never faults; Reset and the host's writes by what they
write. -/
theorem haltedTransitions : Obligations.HaltedTransitions := by
  refine ⟨fun s t ht hd => halted_of_step_halt hd ht, fun s t ht hne => ?_, fun s p op t ht => ?_,
    fun s => ⟨rfl, s.hostReset_halted⟩, fun s _ => hostAct_halted s⟩
  · simpa only [ht, stateAfter] using stateAfter_step_halted hne
  · have hne : s.decodeNext ≠ .ok .halt := fun hd => by simp [step_of_decodeNext_halt hd] at ht
    simpa only [ht, stateAfter] using stateAfter_step_halted hne

/-- Settles O21: HALT ends Halted from either state, and every other step carries `halted` through. -/
theorem stepDoesNotTestHalted : Obligations.StepDoesNotTestHalted := by
  intro s
  change step (s.setHalted true) = mapState (State.setHalted true) (step (s.setHalted false))
  by_cases hd : s.decodeNext = .ok .halt
  · rw [step_of_decodeNext_halt ((s.decodeNext_setHalted true).trans hd),
      step_of_decodeNext_halt ((s.decodeNext_setHalted false).trans hd),
      State.fetchN_setHalted, State.fetchN_setHalted]
    rfl
  · rw [step_setHalted hd, step_setHalted hd, mapState_mapState]
    rfl

end Sys2Proof.Machine
end

section
/-! Runs (44_halt.md R183; 92_eei_decisions.md D20): one equation for each way a run can begin, and what its
end says, by induction on the steps given. -/

namespace Sys2Proof.Machine

theorem runUntilHalt_of_halted {s : State} (hs : s.halted = true) (k : Nat) :
    runUntilHalt k s = .halted s := by
  cases k <;> simp [runUntilHalt, hs]

theorem runUntilHalt_zero_of_running {s : State} (hs : s.halted = false) :
    runUntilHalt 0 s = .unfinished s := by
  simp [runUntilHalt, hs]

theorem runUntilHalt_succ_of_next {s t : State} (hs : s.halted = false) (ht : step s = .next t) (k : Nat) :
    runUntilHalt (k + 1) s = runUntilHalt k t := by
  simp [runUntilHalt, hs, ht]

theorem runUntilHalt_succ_of_fault {s t : State} {p : Option Byte} {op : Byte} (hs : s.halted = false)
    (ht : step s = .fault (.unknownOpcode p op t)) (k : Nat) :
    runUntilHalt (k + 1) s = .faulted p op t := by
  simp [runUntilHalt, hs, ht]

/-- What the end of a run says of its states: a normal end is Halted, a run that has not ended is Running, a
fault is that of a step from a Running state, and no run ends in a refusal. -/
def RunEnd.Justified : RunEnd → Prop
  | .halted t => t.halted = true
  | .unfinished t => t.halted = false
  | .faulted p op t => ∃ u : State, u.halted = false ∧ step u = .fault (.unknownOpcode p op t)
  | .refused _ => False

theorem runUntilHalt_justified (k : Nat) (s : State) : (runUntilHalt k s).Justified := by
  induction k generalizing s with
  | zero =>
    cases hs : s.halted with
    | true => rw [runUntilHalt_of_halted hs]; exact hs
    | false => rw [runUntilHalt_zero_of_running hs]; exact hs
  | succ k ih =>
    cases hs : s.halted with
    | true => rw [runUntilHalt_of_halted hs]; exact hs
    | false =>
      obtain ⟨t, ht⟩ | ⟨p, op, t, ht⟩ := everyInstructionCompletes.2 s
      · rw [runUntilHalt_succ_of_next hs ht]; exact ih t
      · rw [runUntilHalt_succ_of_fault hs ht]; exact ⟨s, hs, ht⟩

theorem justified_of_runUntilHalt_eq {k : Nat} {s : State} {r : RunEnd} (h : runUntilHalt k s = r) :
    r.Justified :=
  h ▸ runUntilHalt_justified k s

/-- A run that has ended ends alike with more steps given. -/
theorem runUntilHalt_add {k : Nat} {s : State} (hend : ∀ t, runUntilHalt k s ≠ .unfinished t) (n : Nat) :
    runUntilHalt (k + n) s = runUntilHalt k s := by
  induction k generalizing s with
  | zero =>
    cases hs : s.halted with
    | true => rw [runUntilHalt_of_halted hs, runUntilHalt_of_halted hs]
    | false => exact absurd (runUntilHalt_zero_of_running hs) (hend s)
  | succ k ih =>
    rw [Nat.add_right_comm]
    cases hs : s.halted with
    | true => rw [runUntilHalt_of_halted hs, runUntilHalt_of_halted hs]
    | false =>
      obtain ⟨t, ht⟩ | ⟨p, op, t, ht⟩ := everyInstructionCompletes.2 s
      · simp only [runUntilHalt_succ_of_next hs ht] at hend ⊢
        exact ih hend
      · rw [runUntilHalt_succ_of_fault hs ht, runUntilHalt_succ_of_fault hs ht]

/-- Settles O45: the beginnings of a run by its equations, its ends by what justifies them. -/
theorem runsEndAtHaltOrFault : Obligations.RunsEndAtHaltOrFault := by
  refine ⟨fun k s hs => runUntilHalt_of_halted hs k, fun s => runUntilHalt_zero_of_running,
    fun k s t hs ht => runUntilHalt_succ_of_next hs ht k, fun k s t hs hd ht => ?_,
    fun k s p op t hs ht => runUntilHalt_succ_of_fault hs ht k, fun _ _ _ => justified_of_runUntilHalt_eq,
    fun _ _ _ => justified_of_runUntilHalt_eq, fun _ _ _ _ _ => justified_of_runUntilHalt_eq,
    fun _ _ _ => justified_of_runUntilHalt_eq, fun k n s r h hend => ?_⟩
  · rw [runUntilHalt_succ_of_next hs ht, runUntilHalt_of_halted (halted_of_step_halt hd ht)]
  · subst h
    exact runUntilHalt_add hend n

end Sys2Proof.Machine
end

/-! # The family 60_exceptions: the fault of a step -/

section
/-! Where a step faults, and the state it delivers then (60_exceptions.md R192, R193). -/

namespace Sys2Proof.Machine

theorem raiseUnknownOpcode_eq_fault_iff {p q : Option Byte} {a b : Byte} {s t : State} :
    raiseUnknownOpcode p a s = .fault (.unknownOpcode q b t) ↔ p = q ∧ a = b ∧ s = t := by
  simp [raiseUnknownOpcode]

/-- A byte at PC whose slot of `main` is unpopulated: the step faults after the fetch of that byte. -/
theorem step_of_unpopulated {s : State} (hu : mainSlot (s.streamByte 0) = .unpopulated) :
    step s = raiseUnknownOpcode none (s.streamByte 0) (State.fetchN 1 s) := by
  have hd : s.decodeNext = .unknownOpcode (s.streamByte 0) :=
    (decode_unknownOpcode_iff _ _ _ _ _).2 ⟨rfl, hu⟩
  simp only [step, hd]

/-- A prefix byte at PC whose table has no slot for the byte after it: the step faults after both fetches. -/
theorem step_of_prefixByte_of_unpopulated {s : State} {p : Prefix} (hp : s.streamByte 0 = p.byte)
    (hu : p.slot (s.streamByte 1) = .unpopulated) :
    step s = raiseUnknownOpcode (some p.byte) (s.streamByte 1) (State.fetchN 2 s) := by
  have hd : s.decodeNext = .ok p.instr := by
    rw [State.decodeNext, hp]
    exact decode_prefixByte_of_unpopulated hu _ _
  exact step_of_unpopulated_after_prefix hd hu

/-- A step completes, unless the slot that the first byte, or the one after a prefix byte, selects is
unpopulated. -/
theorem step_completes_or_slot_unpopulated (s : State) :
    (∃ t, step s = .next t) ∨ mainSlot (s.streamByte 0) = .unpopulated ∨
      ∃ p : Prefix, s.streamByte 0 = p.byte ∧ p.slot (s.streamByte 1) = .unpopulated := by
  cases hd : s.decodeNext with
  | unknownOpcode op => exact .inr (.inl ((decode_unknownOpcode_iff _ _ _ _ _).1 hd).2)
  | ok i =>
    obtain hi | ⟨p, rfl, -⟩ := decode_ok_cases hd
    · rw [step_of_decodeNext hd]
      exact .inl (exec_completes hi _)
    · exact .inr (.inr ⟨p, prefixByte_of_decode hd⟩)

/-- Settles O23: a step that faults has an unpopulated slot before it, in `main` or in the table of a prefix,
and each of the two kinds of slot makes one fault. -/
theorem faultExactlyOnUnpopulatedSlot : Obligations.FaultExactlyOnUnpopulatedSlot := by
  intro s pfx op t
  constructor
  · intro hfault
    obtain ⟨u, hu⟩ | hu | ⟨p, hp, hu⟩ := step_completes_or_slot_unpopulated s
    · simp [hu] at hfault
    · rw [step_of_unpopulated hu] at hfault
      obtain ⟨rfl, rfl, rfl⟩ := raiseUnknownOpcode_eq_fault_iff.1 hfault
      exact .inl ⟨rfl, rfl, hu, rfl⟩
    · rw [step_of_prefixByte_of_unpopulated hp hu] at hfault
      obtain ⟨rfl, rfl, rfl⟩ := raiseUnknownOpcode_eq_fault_iff.1 hfault
      exact .inr ⟨p, hp, rfl, rfl, hu, rfl⟩
  · rintro (⟨rfl, rfl, hu, rfl⟩ | ⟨p, hp, rfl, rfl, hu, rfl⟩)
    · exact step_of_unpopulated hu
    · exact step_of_prefixByte_of_unpopulated hp hu

theorem State.fetchN_one (s : State) :
    State.fetchN 1 s = { s with pc := s.pc + 1#16, trace := s.trace.emit (s.streamByte 0) } := rfl

theorem State.fetchN_two (s : State) :
    State.fetchN 2 s =
      { s with pc := s.pc + 2#16, trace := (s.trace.emit (s.streamByte 0)).emit (s.streamByte 1) } := by
  rw [State.fetchN_eq, State.fetchN_pc]
  rfl

/-- Settles O24: the state delivered is the one after the one or two fetches. -/
theorem faultLeavesAllButPcAndTrace : Obligations.FaultLeavesAllButPcAndTrace := by
  refine fun s op t => ⟨fun hfault => ?_, fun b hfault => ?_⟩
  · obtain ⟨-, rfl, -, rfl⟩ | ⟨p, -, hpfx, -⟩ := (faultExactlyOnUnpopulatedSlot s none op t).1 hfault
    · exact s.fetchN_one
    · cases hpfx
  · obtain ⟨hpfx, -⟩ | ⟨p, hp, hpfx, rfl, -, rfl⟩ := (faultExactlyOnUnpopulatedSlot s (some b) op t).1 hfault
    · cases hpfx
    · obtain rfl : b = s.streamByte 0 := (Option.some.inj hpfx).trans hp.symm
      exact s.fetchN_two

end Sys2Proof.Machine
end

/-! # The family 70_reset_and_hazards: Reset and launch -/

section
/-! Reset (70_reset_and_hazards.md R220, R223; 92_eei_decisions.md D13): what the host reads after it, and
that no other action leads from Halted to Running. -/

namespace Sys2Proof.Machine

@[simp] theorem State.hostReset_hostRead8 (s : State) (x : HostReg8) : s.hostReset.hostRead8 x = 0 := by
  cases x <;> rfl

theorem word_zero_zero : word 0 0 = 0 := by decide

@[simp] theorem State.hostReset_hostRead16 (s : State) (x : HostReg16) : s.hostReset.hostRead16 x = 0 := by
  cases x with
  | PC | SP | IX | IY => rfl
  | BC | DE | HL | AF => exact word_zero_zero

/-- Reset looks at the memory and the trace alone, which it keeps. -/
@[simp] theorem State.hostReset_hostReset (s : State) : s.hostReset.hostReset = s.hostReset := rfl

/-- A step from a Halted state ends Halted: HALT sets `halted`, every other step leaves it, also where it
faults. -/
theorem stateAfter_step_halted_of_halted {s : State} (hs : s.halted = true) :
    (stateAfter s (step s)).halted = true := by
  by_cases hd : s.decodeNext = .ok .halt
  · rw [step_of_decodeNext_halt hd]
    rfl
  · rw [stateAfter_step_halted hd, hs]

/-- Every action of the host but Reset keeps a Halted state Halted. -/
theorem hostAct_halted_of_halted {s : State} (hs : s.halted = true) {act : HostAction}
    (hreset : act ≠ .reset) : (hostAct act s).halted = true := by
  by_cases hstep : act = .step
  · subst hstep
    exact stateAfter_step_halted_of_halted hs
  · rw [hostAct_halted s hstep hreset, hs]

/-- Settles O51: Reset by what the host reads after it; an action that leads from Halted to Running is none of
those that keep a Halted state Halted. -/
theorem resetZeroesEveryRegister : Obligations.ResetZeroesEveryRegister := by
  refine ⟨fun s => ⟨s.hostReset_hostRead8, s.hostReset_hostRead16, s.hostReset_shadow, s.hostReset_halted,
    s.hostReset_mem, s.hostReset_trace, s.hostReset_hostReset⟩, fun s act hs hrunning => ?_⟩
  by_contra hne
  exact Bool.false_ne_true (hrunning.symm.trans (hostAct_halted_of_halted hs hne))

end Sys2Proof.Machine
end

section
/-! Launch (70_reset_and_hazards.md R221, R225; 20_memory.md R55; 92_eei_decisions.md D12): the instruction
stream starts at address 0x0000 of the launch image. -/

namespace Sys2Proof.Machine

@[simp] theorem State.powerOn_readByte (img : Word → Byte) (att : Bool) (a : Word) :
    (State.powerOn img att).readByte a = img a :=
  byteStoreReadsBack.2 img att a

@[simp] theorem State.powerOn_streamByte (img : Word → Byte) (att : Bool) (k : Nat) :
    (State.powerOn img att).streamByte k = img (BitVec.ofNat 16 k) := by
  rw [State.streamByte_eq, State.powerOn_readByte, State.powerOn_pc, zero_add]

theorem State.powerOn_decodeNext (img : Word → Byte) (att : Bool) :
    (State.powerOn img att).decodeNext = decode (img 0x0000) (img 0x0001) (img 0x0002) (img 0x0003) := by
  simp only [State.decodeNext, State.powerOn_streamByte]
  rfl

/-- Settles O52: the fields at launch, and the bytes that the first step finds at PC. -/
theorem powerOnIsResetOnTheLaunchImage : Obligations.PowerOnIsResetOnTheLaunchImage := fun img att =>
  have htrace := State.powerOn_trace img att
  ⟨State.powerOn_readByte img att, State.powerOn_hostReset img att, congrArg TracePort.emitted htrace,
    congrArg TracePort.attached htrace, State.powerOn_decodeNext img att, State.powerOn_inv img att⟩

end Sys2Proof.Machine
end

section
/-! The canonical form of memory is unique (20_memory.md section 1): the first address of each of two canonical
memories that read alike is the first of the other, and so on along their tails. -/

namespace Sys2Proof.Machine

@[simp] theorem Memory.get_cons_self (k : Nat) (w : Byte) (rest : Memory) :
    Memory.get ((k, w) :: rest) k = w := by
  simp [Memory.get]

theorem Memory.get_cons_of_lt {k a : Nat} (h : k < a) (w : Byte) (rest : Memory) :
    Memory.get ((k, w) :: rest) a = Memory.get rest a := by
  simp [Memory.get, h.ne', h.le]

/-- The two memories read alike at every address that exists. -/
def Memory.ReadAlike (m n : Memory) : Prop :=
  ∀ a < Config.addressCount, Memory.get m a = Memory.get n a

theorem Memory.ReadAlike.symm {m n : Memory} (h : Memory.ReadAlike m n) : Memory.ReadAlike n m :=
  fun a ha => (h a ha).symm

/-- The pairs of a memory that reads like a canonical one do not all lie above the first pair of that one. -/
theorem Memory.ReadAlike.not_wfFrom_succ {lo k : Nat} {w : Byte} {rest n : Memory}
    (hm : Memory.wfFrom lo ((k, w) :: rest) = true) (h : Memory.ReadAlike ((k, w) :: rest) n) :
    ¬ Memory.wfFrom (k + 1) n = true := by
  intro hn
  obtain ⟨-, hk, hw, -⟩ := (Memory.wfFrom_cons ..).1 hm
  have hread : w = Memory.get n k := by simpa using h k hk
  exact hw (hread.trans (Memory.get_below hn k.lt_succ_self))

theorem Memory.ReadAlike.head_le {lo lo' k k' : Nat} {w w' : Byte} {rest rest' : Memory}
    (hm : Memory.wfFrom lo ((k, w) :: rest) = true) (hn : Memory.wfFrom lo' ((k', w') :: rest') = true)
    (h : Memory.ReadAlike ((k, w) :: rest) ((k', w') :: rest')) : k' ≤ k := by
  by_contra hlt
  exact h.not_wfFrom_succ hm
    ((Memory.wfFrom_cons ..).2 ⟨by omega, ((Memory.wfFrom_cons ..).1 hn).2⟩)

/-- Up to the common first address the tails hold no pair; above it they read as the whole memories do. -/
theorem Memory.ReadAlike.tail {k : Nat} {w w' : Byte} {rest rest' : Memory}
    (hm : Memory.wfFrom (k + 1) rest = true) (hn : Memory.wfFrom (k + 1) rest' = true)
    (h : Memory.ReadAlike ((k, w) :: rest) ((k, w') :: rest')) : Memory.ReadAlike rest rest' := by
  intro a ha
  rcases lt_or_ge k a with hka | hak
  · simpa only [Memory.get_cons_of_lt hka] using h a ha
  · rw [Memory.get_below hm (Nat.lt_succ_of_le hak), Memory.get_below hn (Nat.lt_succ_of_le hak)]

theorem Memory.ReadAlike.eq {lo lo' : Nat} {m n : Memory} (hm : Memory.wfFrom lo m = true)
    (hn : Memory.wfFrom lo' n = true) (h : Memory.ReadAlike m n) : m = n := by
  induction m generalizing lo lo' n with
  | nil =>
    cases n with
    | nil => rfl
    | cons q rest' => exact absurd rfl (h.symm.not_wfFrom_succ hn)
  | cons p rest ih =>
    obtain ⟨k, w⟩ := p
    cases n with
    | nil => exact absurd rfl (h.not_wfFrom_succ hm)
    | cons q rest' =>
      obtain ⟨k', w'⟩ := q
      obtain rfl : k = k' := le_antisymm (h.symm.head_le hn hm) (h.head_le hm hn)
      obtain ⟨-, hk, -, hrest⟩ := (Memory.wfFrom_cons ..).1 hm
      obtain ⟨-, -, -, hrest'⟩ := (Memory.wfFrom_cons ..).1 hn
      obtain rfl : w = w' := by simpa using h k hk
      rw [ih hrest hrest' (h.tail hrest hrest')]

theorem State.mem_readAlike {s t : State} (h : ∀ a, s.readByte a = t.readByte a) :
    Memory.ReadAlike s.mem t.mem :=
  fun a ha => h (BitVec.ofNatLT a ha)

/-- Settles O48, by induction along the two memory lists. -/
theorem canonicalMemoryIsUnique : Obligations.CanonicalMemoryIsUnique :=
  fun _ _ hs ht h => (State.mem_readAlike h).eq hs ht

end Sys2Proof.Machine
end
